-- ==== Sys2Proof/Word.lean ====
section
/-! DEFINITION. The one word type of the part: the byte that frames and table memory are made of (R153, R157).
Everything else in the spec is an exact integer (00_scope.md, "Integer arithmetic") and is held as Nat or Int. -/

namespace Sys2Proof

/-- One byte of a frame, a table bucket or a spill record. -/
abbrev Byte := BitVec 8

end Sys2Proof
end

