-- ==== Sys2Proof/Syntax.lean ====
section
/-! DEFINITION. The commands: one constructor per row of spec/opcode_table.json, in the table's order. A row that is a frame
reaching a port carries the frame's bytes as the line layer hands them over (R144); a row that happens at one head names the
head; a row that takes a Management Request takes the oldest frame of the management request buffer (R169), so its
parameters are in the state. -/

namespace Sys2Proof

/-- One of the four tracker heads (R1). -/
inductive Head where
  | h0 | h1 | h2 | h3
  deriving DecidableEq, Repr

/-- One of the five ports (R143). -/
inductive Port where
  | head (n : Head)
  | uplink
  deriving DecidableEq, Repr

/-- The rows of spec/opcode_table.json. -/
inductive Instr where
  | hardReset
  | badFrame (p : Port) (bytes : List Byte)
  | sampleFrame (n : Head) (bytes : List Byte)
  | headStatusFrame (n : Head) (bytes : List Byte)
  | headCommandFrame (bytes : List Byte)
  | managementRequestFrame (bytes : List Byte)
  | unknownKindRequest
  | readPart
  | readHead
  | readTime
  | readCell
  | memRead
  | readFault
  | syncConfig
  | headConfig
  | writeComp
  | writePose
  | tableConfig
  | tableConfigApply
  | spillConfig
  | memConfig
  | setArbiter
  | memWrite
  | memWriteResume
  | purgeCell
  | purgeAll
  | pinCell
  | pinCellResume
  | unpinCell
  | pointState
  | pointStateResume
  | headModeEnable
  | headModeDisable
  | headModeAim
  | clearFault
  | setServiceActive
  | setServiceHold
  | setServiceStandby
  | setServiceWake
  | restart
  | restartProper
  | syncEpoch
  | syncExpiry (n : Head)
  | silenceLimit (n : Head)
  | coastLimit (n : Head)
  | searchDwellEnd (n : Head)
  | settleExpiry (n : Head)
  | triggerExpired (n : Head)
  | syncPulseEnd (n : Head)
  | triggerEdge (n : Head)
  | referenceEdge
  | referenceTimeout
  | lockUpComplete
  | captureAttempt
  | refreshExpiry
  | memoryGrant
  | walkReadDone
  | pendingStartRetry (n : Head)
  | rewalkStart
  | writebackDone
  | spillWriteDone
  | drainReadStart
  | drainReadDone
  | memReadDone
  | memWriteDone
  | pointStateWriteDone
  | refreshDone
  | initSettleEnd
  | initRefreshDone
  | selfRefreshEntry
  | selfRefreshExitDone
  | eventSlotTaken
  | heldAnswerEntry
  | uplinkTxEnd
  | headTxEnd (n : Head)
  | discardedGoodFrame (p : Port) (bytes : List Byte)
  deriving DecidableEq, Repr

end Sys2Proof
end

