-- ==== Sys2Proof/Decode.lean ====
section
/-! DEFINITION. The command a word spells. spec/opcode_table.json gives none of its rows any bits: a command reaches this part
as a frame, a pin event or a step of its own, never as a word (log 30). -/

namespace Sys2Proof

/-- No row of the table gives bits, so no word spells a command (log 30). -/
def decodeTableWord (_nbits _w : Nat) : Option Instr := none

end Sys2Proof
end

