-- ==== Sys2Proof/Machine/Bytes.lean ====
section
/-! DEFINITION. Byte order, sign extension and field selection for every layout of the part (R153, R172, R173): multi-byte
fields are least significant byte first and signed fields are two's complement. -/

namespace Sys2Proof.Machine
open Sys2Proof

/-- The unsigned value of a field, least significant byte first (R153). -/
def leNat : List Byte → Nat
  | [] => 0
  | b :: bs => b.toNat + 256 * leNat bs

/-- The signed value of a field, two's complement (R153). -/
def leInt (bs : List Byte) : Int :=
  if 2 * leNat bs < 256 ^ bs.length then (leNat bs : Int) else (leNat bs : Int) - (256 ^ bs.length : Nat)

/-- The k bytes of an unsigned value, least significant byte first (R153). -/
def natLE : Nat → Nat → List Byte
  | 0, _ => []
  | k + 1, v => BitVec.ofNat 8 v :: natLE k (v / 256)

/-- The k bytes of a signed value, two's complement (R153). -/
def intLE (k : Nat) (v : Int) : List Byte := natLE k (v % ((256 ^ k : Nat) : Int)).toNat

/-- One byte. -/
def byteOf (v : Nat) : Byte := BitVec.ofNat 8 v

/-- A mark is one byte, 0 or 1 (R173). -/
def markByte (b : Bool) : List Byte := [if b then 1 else 0]

/-- The len bytes of a structure from byte off on. -/
def field (off len : Nat) (bs : List Byte) : List Byte := (bs.drop off).take len

/-- The unsigned field of len bytes at off. -/
def natAt (off len : Nat) (bs : List Byte) : Nat := leNat (field off len bs)

/-- The signed field of len bytes at off. -/
def intAt (off len : Nat) (bs : List Byte) : Int := leInt (field off len bs)

/-- Bit k of a byte value. -/
def bitAt (k : Nat) (v : Nat) : Bool := v.testBit k

/-- A list of bytes cut or filled with zeros to exactly n bytes. -/
def padTo (n : Nat) (bs : List Byte) : List Byte := bs.take n ++ List.replicate (n - bs.length) 0

/-- An item that may be absent: a presence byte, then the item or as many zeros as it takes (R173). -/
def optItem (width : Nat) : Option (List Byte) → List Byte
  | some bs => 1 :: bs
  | none => 0 :: List.replicate width 0

/-- A list: its count, then its largest number of entries, the places beyond the count as zeros (R173). -/
def listItem (most width : Nat) (entries : List (List Byte)) : List Byte :=
  byteOf entries.length :: padTo (most * width) entries.flatten

end Sys2Proof.Machine
end

