-- ==== Sys2Proof/Machine/Frame.lean ====
section
/-! DEFINITION. A frame as the line layer hands it over: the check (R145), the tests that tell a good frame from a bad one
(R144), the header's fields and codes (R153), and the frame the part builds (R152). -/

namespace Sys2Proof.Machine
open Sys2Proof

/-- One bit of the check: shift toward the most significant end, then combine with 4,129 when the bit shifted out differs
from the data bit (R145). -/
def crcBit (r : BitVec 16) (b : Bool) : BitVec 16 :=
  if r.msb != b then (r <<< 1) ^^^ 4129#16 else r <<< 1

/-- One byte of the check, most significant bit first (R145). -/
def crcByte (r : BitVec 16) (b : Byte) : BitVec 16 :=
  [7, 6, 5, 4, 3, 2, 1, 0].foldl (fun r k => crcBit r (b.toNat.testBit k)) r

/-- The check over a frame's header and payload bytes, from a register of all ones, not inverted (R145). -/
def crc (bytes : List Byte) : BitVec 16 := bytes.foldl crcByte 65535#16

/-- Header fields (R153). -/
def frameKind (f : List Byte) : Nat := natAt 0 1 f
def frameDest (f : List Byte) : Nat := natAt 1 1 f
def frameTag (f : List Byte) : Byte := f.getD 3 0
def frameFlags (f : List Byte) : Nat := natAt 4 1 f
def frameLength (f : List Byte) : Nat := natAt 5 1 f
def framePayload (f : List Byte) : List Byte := field 6 (frameLength f) f

/-- The motion flag of a Head Command: bit 0 of the flags byte (R153). -/
def frameMotion (f : List Byte) : Bool := bitAt 0 (frameFlags f)

/-- A frame is bad when it is too short, its payload length field is above 60, its byte count is not 8 plus its payload
length, or its check does not match (R144). -/
def frameBad (f : List Byte) : Bool :=
  f.length < 8 || frameLength f > 60 || f.length != 8 + frameLength f ||
    natAt (6 + frameLength f) 2 f != (crc (f.take (6 + frameLength f))).toNat

/-- Kind codes (R153). -/
abbrev kindSample : Nat := 1
abbrev kindHeadStatus : Nat := 2
abbrev kindSteer : Nat := 3
abbrev kindHeadCommand : Nat := 4
abbrev kindRequest : Nat := 5
abbrev kindAnswer : Nat := 6
abbrev kindPosition : Nat := 7
abbrev kindCapture : Nat := 8
abbrev kindEvent : Nat := 9

/-- Destination and source codes (R153). -/
abbrev codePart : Nat := 0
abbrev codeSurvey : Nat := 5

/-- A head's number (R1). -/
def headNumber : Head → Nat
  | .h0 => 0
  | .h1 => 1
  | .h2 => 2
  | .h3 => 3

/-- The head a number names, if it names one. -/
def headOf : Nat → Option Head
  | 0 => some .h0
  | 1 => some .h1
  | 2 => some .h2
  | 3 => some .h3
  | _ => none

/-- The four heads in number order. -/
def allHeads : List Head := [.h0, .h1, .h2, .h3]

/-- The code of a head as destination or source: 1 to 4 (R153). -/
def headCode (n : Head) : Nat := headNumber n + 1

/-- The head a destination code names, if it names one (R153). -/
def headOfCode (c : Nat) : Option Head := if c = 0 then none else headOf (c - 1)

/-- A frame with its header, its payload and its check (R152, R153). -/
def buildFrame (kind dest src : Nat) (tag : Byte) (flags : Nat) (payload : List Byte) : List Byte :=
  let body := [byteOf kind, byteOf dest, byteOf src, tag, byteOf flags, byteOf payload.length] ++ payload
  body ++ natLE 2 (crc body).toNat

/-- The payload length of a Sample frame that decodes (R153). -/
abbrev samplePayload : Nat := 22

/-- A good frame that its port discards for its kind, its destination or, for a Sample, its payload length
(R147, R148, R153). -/
def frameUnrouted (p : Port) (f : List Byte) : Bool :=
  match p with
  | .head _ =>
    !((frameKind f == kindSample && frameDest f == codePart && frameLength f == samplePayload) ||
      (frameKind f == kindHeadStatus && frameDest f == codeSurvey))
  | .uplink =>
    !((frameKind f == kindRequest && frameDest f == codePart) ||
      (frameKind f == kindHeadCommand && (headOfCode (frameDest f)).isSome))

end Sys2Proof.Machine
end

