-- ==== Sys2Proof/Config.lean ====
section
/-! DEFINITION. The part's fixed sizes, each with the rule that gives it, and the free values: constants without a body that
stand for what the spec leaves open, so that no proof can use a value of theirs. -/

namespace Sys2Proof.Config

/-- Size of the attached table memory: 64 MiB (R57, R125). -/
abbrev memorySize : Nat := 67108864
/-- Bytes of a bucket and of a spill record (R59, R103). -/
abbrev bucketBytes : Nat := 64
/-- Bytes of a slot, the spare byte included (R157). -/
abbrev slotBytes : Nat := 30
/-- Positions of the spill ring and bytes of its region (R103). -/
abbrev ringPositions : Nat := 512
abbrev ringBytes : Nat := 32768
/-- Cell records on chip (R61) and the most that may be pinned (R75). -/
abbrev cacheRecords : Nat := 32
abbrev pinLimit : Nat := 24
/-- Places of the report queue, and how many of them Position frames may take (R158). -/
abbrev queuePlaces : Nat := 48
abbrev positionPlaces : Nat := 40
/-- The occupancy reached by a high-water crossing and by a low-water crossing (R162, R163). -/
abbrev highWater : Nat := 36
abbrev lowWater : Nat := 12
/-- Frames of a forward buffer (R143), requests of the management request buffer (R143), write-back entries (R99). -/
abbrev forwardPlaces : Nat := 8
abbrev requestPlaces : Nat := 4
abbrev writebackPlaces : Nat := 8
/-- Spill writes and drain reads that may be outstanding (R106, R107). -/
abbrev spillWriteLimit : Nat := 4
abbrev drainReadLimit : Nat := 4
/-- Entries of a settle queue (R85) and of a sync history (R117). -/
abbrev settlePlaces : Nat := 12
abbrev historyPlaces : Nat := 4
/-- Buckets one walk may read and matches it may collect (R68, R69). -/
abbrev walkBuckets : Nat := 4
abbrev walkMatches : Nat := 4
/-- Counts of a turn, of a quarter turn and of a compensation segment (R8, R9, R12). -/
abbrev turn : Int := 16777216
abbrev quarterTurn : Int := 4194304
abbrev segment : Int := 65536
/-- The signed 32-bit limits of a block coordinate (R22). -/
abbrev coordMax : Int := 2147483647
abbrev coordMin : Int := -2147483648
/-- Modulus of sync indices and pose generations (R21, R114). -/
abbrev indexModulus : Nat := 65536
/-- The timebase's top value, which it holds once reached (R109). -/
abbrev timebaseMax : Nat := 18446744073709551615
/-- Ticks of a lock-up (R111), of a sync pulse (R116), of the settle phase of initialization (R130). -/
abbrev lockUpTicks : Nat := 1048576
abbrev pulseTicks : Nat := 2000
abbrev settlePhaseTicks : Nat := 20000
/-- First refreshes of initialization (R130). -/
abbrev firstRefreshes : Nat := 8
/-- The most refreshes owed (R125, R137). -/
abbrev owedLimit : Nat := 8
/-- Nanoseconds of a tick (R109) and ticks of a microsecond (R130). -/
abbrev tickNs : Nat := 10
abbrev ticksPerUs : Nat := 100

/-- DESIGN CHOICE (log 5). What a byte of table memory that nothing has written since the latest hard reset holds, by the
number of hard resets before it and its address: R125 leaves the contents unspecified. -/
opaque unspecifiedByte : Nat → Nat → Byte

/-- DESIGN CHOICE (logs 2, 7, 8). The n-th choice among orders that the spec leaves open (R71, R164 and the like). -/
opaque freeChoice : Nat → Nat

/-- DESIGN CHOICE (log 9). The sync index of a Steer frame produced before the head's first sync expiry (R54 names none). -/
opaque unstatedSteerIndex : Nat → BitVec 16

/-- DESIGN CHOICE (log 10). The cell key bytes of a READ_CELL answer for an invalid record (R61: "Its other fields are not
kept"; R174 still lists the key). -/
opaque unstatedCellKey : Nat → BitVec 48

/-- DESIGN CHOICE (log 36). The unsigned 64-bit timestamp field of a Capture payload for a timestamp below 0 (R117 gives the
difference; R155 gives the field no such value). -/
opaque unstatedTimestamp : Int → BitVec 64

/-- DESIGN CHOICE (log 41). What READ_TIME's 8-byte time of the next epoch shows when that time lies beyond 2^64 - 1 (R122;
R109 gives the timebase no such value). -/
opaque unstatedEpoch : Nat → BitVec 64

end Sys2Proof.Config
end

