-- ==== Sys2Proof/Machine/State.lean ====
section
/-! DEFINITION. State as plain data, block by block as 00_scope.md lists the blocks, and State.reset, the part right after a
hard reset. Counts, indices, addresses and times are Nat; coordinates, angles and anchors are Int; an item "or none" is an
Option; bytes stand only in frames and in table memory. -/

namespace Sys2Proof.Machine
open Sys2Proof

/-! ### Values kept once for each head -/

/-- One value for each of heads 0 to 3. -/
structure PerHead (α : Type) where
  h0 : α
  h1 : α
  h2 : α
  h3 : α
  deriving DecidableEq, Repr

/-- The value of one head. -/
def PerHead.get {α : Type} (p : PerHead α) : Head → α
  | .h0 => p.h0
  | .h1 => p.h1
  | .h2 => p.h2
  | .h3 => p.h3

/-- The same values with one head's replaced. -/
def PerHead.set {α : Type} (p : PerHead α) (n : Head) (v : α) : PerHead α :=
  match n with
  | .h0 => { p with h0 := v }
  | .h1 => { p with h1 := v }
  | .h2 => { p with h2 := v }
  | .h3 => { p with h3 := v }

/-- The same value for every head. -/
def PerHead.all {α : Type} (v : α) : PerHead α := ⟨v, v, v, v⟩

/-- A function applied to every head's value. -/
def PerHead.map {α β : Type} (f : α → β) (p : PerHead α) : PerHead β := ⟨f p.h0, f p.h1, f p.h2, f p.h3⟩

/-- The four values, head 0 first. -/
def PerHead.toList {α : Type} (p : PerHead α) : List α := [p.h0, p.h1, p.h2, p.h3]

/-- Three exact coordinates or three signed entries of a row. -/
structure Vec3 where
  x : Int
  y : Int
  z : Int
  deriving DecidableEq, Repr

/-! ### Measurement unit (Chapter 1) -/

/-- A rotation: three rows of three signed 32-bit entries in units of 2^-30 (R1). -/
structure Rotation where
  row1 : Vec3
  row2 : Vec3
  row3 : Vec3
  deriving DecidableEq, Repr

/-- One head's measurement state (R1). -/
structure Measure where
  /-- Azimuth compensation table, 256 signed 16-bit entries. -/
  compAz : List Int
  /-- Elevation compensation table, 256 signed 16-bit entries. -/
  compEl : List Int
  countScale : Nat
  deadband : Nat
  distanceMax : Nat
  rotation : Rotation
  translation : Vec3
  poseGen : Nat
  anchor : Int
  deriving DecidableEq, Repr

/-- The fields of a Sample frame (R153). -/
structure RawSample where
  index : Nat
  azimuth : Nat
  elevation : Int
  count : Int
  adm : Nat
  psdX : Int
  psdY : Int
  intensity : Nat
  admValid : Bool
  motorFault : Bool
  deriving DecidableEq, Repr

/-- The sample flags (R5). -/
structure SampleFlags where
  psdClamp : Bool
  elevClamp : Bool
  distRange : Bool
  distCoarse : Bool
  coordSat : Bool
  noDist : Bool
  deriving DecidableEq, Repr

/-- The distance source the tracking unit names for a sample (R4). -/
inductive DistSource where
  | interferometer
  | adm
  | none
  deriving DecidableEq, Repr

/-- A block position with the pose generation it is stamped with (R22). -/
structure BlockPos where
  pos : Vec3
  gen : Nat
  deriving DecidableEq, Repr

/-! ### Tracking unit (Chapter 2) -/

/-- The eight states of a head context (Chapter 2, codes of R154). -/
inductive CtxState where
  | offline | disabled | locked | coasting | searching | settling | lost | parked
  deriving DecidableEq, Repr

/-- The causes of a STATE event (R55). -/
inductive StateCause where
  | returnLost | returnFound | slip | coastLimit | searchExhausted | anchored | anchorFail | silence
  | motionCommand | aim | disable | enable | park | wake
  deriving DecidableEq, Repr

/-- A locked sample of the locked history (R29, R35). -/
structure LockedSample where
  az : Int
  el : Int
  index : Nat
  deriving DecidableEq, Repr

/-- The search record (R29, R45, R46). -/
structure SearchRecord where
  centreAz : Int
  centreEl : Int
  step : Nat
  rings : Nat
  dwell : Nat
  ring : Nat
  pos : Nat
  centreFirst : Bool
  deriving DecidableEq, Repr

/-- The latest sample record (R29, R33). -/
structure LatestSample where
  index : Nat
  az : Int
  el : Int
  adm : Nat
  admValid : Bool
  count : Int
  deriving DecidableEq, Repr

/-- The tracking settings of a head (R30). -/
structure TrackSettings where
  threshold : Nat
  coastLimit : Nat
  settleSelect : Nat
  searchStep : Nat
  searchRings : Nat
  searchDwell : Nat
  maxRate : Nat
  slipLimit : Nat
  silenceLimit : Nat
  deriving DecidableEq, Repr

/-- A head context (R29). -/
structure Context where
  state : CtxState
  timer : Nat
  silence : Nat
  heard : Bool
  lastIndex : Option Nat
  newest : Option LockedSample
  previous : Option LockedSample
  velAz : Int
  velEl : Int
  predicted : Option (Int × Int)
  search : Option SearchRecord
  attempts : Nat
  latest : Option LatestSample
  deriving DecidableEq, Repr

/-- A measured sample as it is handed on (R5), with its tracking state (R33). -/
structure MeasuredSample where
  index : Nat
  /-- The exact timestamp of R117; a notional one may lie below 0 (log 36). -/
  timestamp : Int
  az : Int
  el : Int
  dist : Option Int
  block : Option BlockPos
  flags : SampleFlags
  adm : Nat
  admValid : Bool
  count : Int
  tracking : CtxState
  deriving DecidableEq, Repr

/-! ### Point lookup unit (Chapter 3) -/

/-- A cell key: three signed 16-bit cell indices (R23). -/
structure CellKey where
  cx : Int
  cy : Int
  cz : Int
  deriving DecidableEq, Repr

/-- The two slots of a bucket (R59). -/
inductive Slot where
  | a | b
  deriving DecidableEq, Repr

/-- The capture mode of a point (R60). -/
inductive CaptureMode where
  | auto | triggered
  deriving DecidableEq, Repr

/-- The point state read from a slot's marks (R60). -/
inductive PointState where
  | open | captured | disabled
  deriving DecidableEq, Repr

/-- One entry of a cell record's points list (R61). -/
structure Point where
  bucket : Nat
  slot : Slot
  id : Nat
  nominal : Vec3
  tolerance : Nat
  settle : Nat
  mode : CaptureMode
  state : PointState
  capHead : Nat
  capNumber : Nat
  deriving DecidableEq, Repr

/-- A valid cell record (R61). An invalid record is a free place and is held as none. -/
structure CellRecord where
  pinned : Bool
  key : CellKey
  incomplete : Bool
  overflow : Bool
  visited : List Nat
  points : List Point
  deriving DecidableEq, Repr

/-- The lookup result that goes to the capture unit with a sample (R63, R65). -/
inductive LookupResult where
  | noPosition
  | noTable
  | record (r : CellRecord)
  | late
  deriving DecidableEq, Repr

/-- A measured sample with its lookup result, as handed to the capture unit (R63). -/
structure Handed where
  sample : MeasuredSample
  result : LookupResult
  deriving DecidableEq, Repr

/-- A head's waiting sample: on a walk, or with a pending start for its head's charge (R63, R66). -/
structure WaitingSample where
  sample : MeasuredSample
  pendingStart : Bool
  deriving DecidableEq, Repr

/-- The five walk charges (R66). -/
inductive Charge where
  | head (n : Head)
  | management
  deriving DecidableEq, Repr

/-- A walk in flight (R66). It is cancelled when it has neither waiter nor pin (R73). -/
structure Walk where
  charge : Charge
  key : CellKey
  waiters : List Head
  pin : Bool
  /-- Bucket indices read, in order. -/
  visited : List Nat
  matched : List Point
  overflow : Bool
  /-- The bucket whose read is outstanding, or none. -/
  outstanding : Option Nat
  /-- The outstanding read's data is dropped and the chain begun afresh (R74). -/
  dropData : Bool
  /-- Discarded by TABLE_CONFIG or a purge; not rejoined (R73). -/
  discarded : Bool
  deriving DecidableEq, Repr

/-- The point lookup unit: table configuration (R56), cell records, victim pointer, walks, re-walk list (R62). -/
structure Lookup where
  configured : Bool
  base : Nat
  bucketCount : Nat
  shift : Nat
  /-- Records 0 to 31; an invalid record is none. -/
  records : List (Option CellRecord)
  victim : Nat
  walks : List Walk
  rewalk : List CellKey
  deriving DecidableEq, Repr

/-! ### Capture unit and spill ring (Chapter 4) -/

/-- An entry of a settle queue (R85). -/
structure SettleEntry where
  index : Nat
  pos : Vec3
  inWindow : Bool
  deriving DecidableEq, Repr

/-- A queue candidate (R85). -/
structure Candidate where
  bucket : Nat
  slot : Slot
  id : Nat
  deriving DecidableEq, Repr

/-- A head's settle queue, oldest entry first, with its candidate and pose generation (R85). -/
structure SettleQueue where
  entries : List SettleEntry
  candidate : Option Candidate
  poseGen : Option Nat
  deriving DecidableEq, Repr

/-- The phase of a write-back entry (R99). -/
inductive WbPhase where
  | waiting | writing
  deriving DecidableEq, Repr

/-- An entry of the write-back queue (R99). -/
structure WbEntry where
  bucket : Nat
  slot : Slot
  enabled : Bool
  captured : Bool
  capHead : Nat
  capNumber : Nat
  phase : WbPhase
  deriving DecidableEq, Repr

/-- A capture attempt that waits for its turn, with the sample and the candidate it was made for (R92). -/
structure Attempt where
  head : Head
  handed : Handed
  point : Point
  deriving DecidableEq, Repr

/-- The capture unit's own items (R85, R92, R99). -/
structure Capture where
  /-- Write-back queue, oldest first. -/
  writeback : List WbEntry
  /-- Next capture number; none is EXHAUSTED. -/
  nextNumber : Option Nat
  /-- The head whose attempt is running, or none. -/
  attempt : Option Head
  /-- Attempts that wait, in the order in which their conditions held. -/
  waiting : List Attempt
  deriving DecidableEq, Repr

/-- An outstanding spill write with the record's on-chip copy (R105, R106). -/
structure SpillWrite where
  pos : Nat
  data : List Byte
  deriving DecidableEq, Repr

/-- A drain read: outstanding while it has no data; with data, its frame waits for an earlier position (R107). -/
structure Drain where
  pos : Nat
  data : Option (List Byte)
  deriving DecidableEq, Repr

/-- The spill ring (R103). A held position's written mark is set when no spill write of it is outstanding. -/
structure Spill where
  configured : Bool
  base : Nat
  readPos : Nat
  writePos : Nat
  count : Nat
  writes : List SpillWrite
  /-- Drain reads of the oldest held positions, oldest first. -/
  drains : List Drain
  deriving DecidableEq, Repr

/-! ### Time base (Chapter 5) -/

/-- The reference state (R111). -/
inductive RefState where
  | free | acquiring | locked | holdover
  deriving DecidableEq, Repr

/-- The time quality (R112). -/
inductive TimeQuality where
  | free | holdover | locked
  deriving DecidableEq, Repr

/-- A pending sync configuration (R113). -/
structure SyncConfig where
  period : Nat
  phases : PerHead Nat
  deriving DecidableEq, Repr

/-- A head's expiry that the latest epoch has set and that has not been taken (R114). -/
structure DueExpiry where
  index : Nat
  time : Nat
  deriving DecidableEq, Repr

/-- An entry of a sync history (R117), with the period in force at its epoch, which the notional timestamp needs. -/
structure HistoryEntry where
  index : Nat
  time : Nat
  period : Nat
  deriving DecidableEq, Repr

/-- A PENDING trigger record; an IDLE one is none (R118). -/
structure TriggerRecord where
  edgeTime : Nat
  edgeIndex : Nat
  periodsLeft : Nat
  deriving DecidableEq, Repr

/-- The time base's items for one head (R113 to R118). -/
structure HeadTime where
  phase : Nat
  effPhase : Nat
  expiry : Option DueExpiry
  /-- Sync history, oldest first. -/
  history : List HistoryEntry
  /-- The time at which the sync line goes low; none while it is low (R116). -/
  pulseEnd : Option Nat
  trigger : Option TriggerRecord
  window : Nat
  deriving DecidableEq, Repr

/-- The time base's items for the part (R109 to R114). -/
structure TimeBase where
  timebase : Nat
  /-- The time of the latest rising reference edge, or none since the hard reset (R110). -/
  lastEdge : Option Nat
  present : Bool
  refState : RefState
  onceLocked : Bool
  lockUp : Nat
  period : Nat
  pendingSync : Option SyncConfig
  syncIndex : Nat
  nextEpoch : Nat
  deriving DecidableEq, Repr

/-! ### Table memory controller (Chapter 6) -/

/-- The memory state (R125). -/
inductive MemState where
  | uninitialized | initializing | ready | selfRefresh | exiting
  deriving DecidableEq, Repr

/-- The phase of initialization: the settle wait and when it ends, or the first refreshes still to end and when the one
running began (R130). -/
inductive InitPhase where
  | settle (ends : Nat)
  | refreshing (left : Nat) (began : Nat)
  deriving DecidableEq, Repr

/-- The bank interleave (R125). -/
inductive Interleave where
  | k2 | k8 | k32 | m1
  deriving DecidableEq, Repr

/-- The timing set, in ns (R127). -/
structure Timing where
  activate : Nat
  precharge : Nat
  access : Nat
  refresh : Nat
  exit : Nat
  deriving DecidableEq, Repr

/-- What a POINT_STATE own write puts into a slot; none keeps the field as table memory holds it (R100, R101). -/
structure PointWrite where
  bucket : Nat
  slot : Slot
  enabled : Bool
  captured : Option Bool
  capHead : Option Nat
  capNumber : Option Nat
  deriving DecidableEq, Repr

/-- A bucket read a walk has requested (R67). -/
structure WalkRead where
  charge : Charge
  bucket : Nat
  addr : Nat
  deriving DecidableEq, Repr

/-- A request of the SPILL requester (R106, R107). -/
inductive SpillRequest where
  | write (pos : Nat)
  | read (pos : Nat)
  deriving DecidableEq, Repr

/-- The request of the MGMT requester (R132). -/
inductive MgmtRequest where
  | read (addr count : Nat)
  | write (addr : Nat) (data : List Byte)
  | point (w : PointWrite)
  deriving DecidableEq, Repr

/-- An access the controller serves (R133, R136). -/
inductive Access where
  | walk (r : WalkRead)
  | writeback (bucket : Nat) (slot : Slot)
  | spill (r : SpillRequest)
  | mgmt (r : MgmtRequest)
  | refresh
  deriving DecidableEq, Repr

/-- The access in progress, the time of its grant and its duration in ns (R129, R133). -/
structure Running where
  access : Access
  granted : Nat
  duration : Nat
  deriving DecidableEq, Repr

/-- The table memory controller (R125) with its requester queues (R132). -/
structure MemCtl where
  state : MemState
  initPhase : Option InitPhase
  /-- When the exit from self-refresh began (R141). -/
  exitBegan : Option Nat
  quiesce : Bool
  interleave : Interleave
  refreshInterval : Nat
  timing : Timing
  x1 : Bool
  x2 : Bool
  x3 : Bool
  owed : Nat
  nextRefresh : Option Nat
  /-- The open row of banks 0 to 3. -/
  openRows : List (Option Nat)
  running : Option Running
  walkQueue : List WalkRead
  spillQueue : List SpillRequest
  mgmt : Option MgmtRequest
  deriving DecidableEq, Repr

/-! ### Report unit (Chapter 8) -/

/-- The fault kinds (R155, Chapter 10). -/
inductive FaultKind where
  | linkSilent | sampleSequence | searchExhausted | anchorFail | distSlip | cellOverflow | captureRefused | triggerOverrun
  | refLost | badLink | chainLimit | spillFull
  deriving DecidableEq, Repr

/-- An event as a slot holds it (R155, R164). -/
inductive Event where
  | state (old new : CtxState) (cause : StateCause)
  | fault (kind : FaultKind) (detail : Nat)
  | timeQuality (old new : TimeQuality) (time : Nat)
  | triggerExpired (index time : Nat)
  | decimation (values : PerHead Nat) (doubled : Bool)
  deriving DecidableEq, Repr

/-- The event a slot holds, with its superseded mark (R164). -/
structure HeldEvent where
  event : Event
  superseded : Bool
  deriving DecidableEq, Repr

/-- The kinds of frames in the report queue; an answer carries its request's tag (R152, R158). -/
inductive ReportKind where
  | position | capture | event
  | answer (tag : Byte)
  deriving DecidableEq, Repr

/-- A frame of the report queue; header and check are written when its transmission begins (R152). -/
structure ReportFrame where
  kind : ReportKind
  payload : List Byte
  deriving DecidableEq, Repr

/-- A head's decimation items (R160). -/
structure Decimation where
  configured : Nat
  effective : Nat
  count : Nat
  deriving DecidableEq, Repr

/-- The report unit (R158, R160, R164 to R166). -/
structure Report where
  /-- Report queue, oldest first. -/
  queue : List ReportFrame
  reserved : Nat
  partSlot : Option HeldEvent
  headSlots : PerHead (Option HeldEvent)
  /-- The slot the visiting pointer names: none is the part slot. -/
  visiting : Option Head
  decimation : PerHead Decimation
  deriving DecidableEq, Repr

/-! ### Ports (Chapter 7) -/

/-- The frame in a Steer slot, with the tag given at its entry (R150). -/
structure SteerFrame where
  tag : Byte
  payload : List Byte
  deriving DecidableEq, Repr

/-- A head port (R143). -/
structure HeadPort where
  up : Bool
  bad : Nat
  /-- Forward buffer of Head Command frames, oldest first. -/
  forward : List (List Byte)
  steer : Option SteerFrame
  steerTag : Nat
  /-- The frame in transmission. -/
  sending : Option (List Byte)
  deriving DecidableEq, Repr

/-- A Management Request frame in its buffer or in hand: its tag and its payload (R156). -/
structure Request where
  tag : Byte
  payload : List Byte
  deriving DecidableEq, Repr

/-- Where the frame in transmission on the uplink stands until its transmission ends (R151); detached when a soft restart
has emptied the buffer it stood in (R143). -/
inductive TxSource where
  | report | forward | detached
  deriving DecidableEq, Repr

/-- The uplink's frame in transmission. -/
structure UplinkTx where
  source : TxSource
  bytes : List Byte
  deriving DecidableEq, Repr

/-- The uplink port (R143). -/
structure Uplink where
  up : Bool
  bad : Nat
  /-- Uplink forward buffer of Head Status frames, oldest first. -/
  forward : List (List Byte)
  /-- Management request buffer, oldest first. -/
  requests : List Request
  reportTag : Nat
  /-- The last-served mark: true is REPORT, false is FORWARD. -/
  servedReport : Bool
  sending : Option UplinkTx
  deriving DecidableEq, Repr

/-! ### Management unit (Chapter 9) -/

/-- The status codes (R156). -/
inductive Status where
  | ok | badLength | badValue | wrongState | notReady | align | address | pinLimit | unknownKind
  deriving DecidableEq, Repr

/-- The requests that stay in hand (R169), each with what it waits for. -/
inductive Work where
  | tableConfig (base bucketCount shift : Nat)
  | pinForCharge (key : CellKey)
  | pinForWalk (key : CellKey)
  | pointBlocked (bucket : Nat) (slot : Slot) (asked : PointState)
  | pointWrite (bucket : Nat) (slot : Slot)
  | memWriteBlocked (addr : Nat) (data : List Byte)
  | memWrite (addr : Nat) (data : List Byte)
  | memRead (addr count : Nat)
  | setActive
  | setStandby
  | setWake
  | restart
  deriving DecidableEq, Repr

/-- The request in hand (R169). -/
structure InHand where
  tag : Byte
  work : Work
  deriving DecidableEq, Repr

/-- The management unit: the request in hand and the held answer (R167, R169). -/
structure Management where
  inHand : Option InHand
  held : Option ReportFrame
  deriving DecidableEq, Repr

/-! ### Fault and service control (Chapter 10) -/

/-- The first fault of a held record (R181). -/
structure FirstFault where
  kind : FaultKind
  time : Nat
  detail : Nat
  deriving DecidableEq, Repr

/-- A fault record; it is held when it has a first fault (R181). Further kinds stand in increasing code order. -/
structure FaultRecord where
  first : Option FirstFault
  further : List FaultKind
  deriving DecidableEq, Repr

/-- The seven service states (Chapter 10). -/
inductive ServiceState where
  | start | init | active | hold | quiescing | standby | waking
  deriving DecidableEq, Repr

/-! ### The machine -/

/-- The whole part and the queue of commands that wait. -/
structure State where
  /-- The commands waiting, first in, first out. -/
  pending : List Instr
  /-- The model's own: how many free choices and values have been drawn (log 6). -/
  freeCount : Nat
  /-- The model's own: how many hard resets table memory has been through (log 5). -/
  resetCount : Nat
  service : ServiceState
  /-- The restart mark of a soft restart (R188). -/
  restartMark : Bool
  headFaults : PerHead FaultRecord
  partFault : FaultRecord
  measure : PerHead Measure
  ctx : PerHead Context
  settings : PerHead TrackSettings
  lookup : Lookup
  /-- Each head's waiting sample (R63). -/
  waiting : PerHead (Option WaitingSample)
  settle : PerHead SettleQueue
  /-- Each head's samples that wait behind its waiting attempt, oldest first (R92). -/
  behind : PerHead (List Handed)
  capture : Capture
  spill : Spill
  time : TimeBase
  headTime : PerHead HeadTime
  mem : MemCtl
  /-- Table memory: the bytes written since the latest hard reset. -/
  cells : List Host.Cell
  report : Report
  ports : PerHead HeadPort
  uplink : Uplink
  mgmt : Management
  deriving DecidableEq, Repr

/-- Why a step stops the machine. -/
inductive Fault where
  /-- Raised by the completion of an access whose bytes do not all lie in the 64 MiB of table memory (R57, R104, R138 and
  R139 refuse every request that would make one). Safe: it can happen only in a state that no run reaches. -/
  | outsideTableMemory (addr len : Nat)
  deriving DecidableEq, Repr

/-- Why a command has no meaning. -/
inductive Refusal where
  /-- Raised by exec's arm for a command whose meaning is not written yet; no arm does so. Safe: the machine stops. -/
  | notModelled (mnemonic : String)
  deriving DecidableEq, Repr

/-- The outcome of a step. -/
abbrev Out := Host.Outcome State Fault Refusal

/-! ### Hard-reset values -/

/-- R1. -/
def Measure.reset : Measure where
  compAz := List.replicate 256 0
  compEl := List.replicate 256 0
  countScale := 343597384
  deadband := 2
  distanceMax := 60000000
  rotation := ⟨⟨1073741824, 0, 0⟩, ⟨0, 1073741824, 0⟩, ⟨0, 0, 1073741824⟩⟩
  translation := ⟨0, 0, 0⟩
  poseGen := 0
  anchor := 0

/-- R29. -/
def Context.reset : Context where
  state := .offline
  timer := 0
  silence := 0
  heard := false
  lastIndex := none
  newest := none
  previous := none
  velAz := 0
  velEl := 0
  predicted := none
  search := none
  attempts := 0
  latest := none

/-- R30. -/
def TrackSettings.reset : TrackSettings where
  threshold := 40
  coastLimit := 50
  settleSelect := 1
  searchStep := 800
  searchRings := 8
  searchDwell := 2
  maxRate := 20000
  slipLimit := 200
  silenceLimit := 20

/-- R56, R62. -/
def Lookup.reset : Lookup where
  configured := false
  base := 0
  bucketCount := 1024
  shift := 20
  records := List.replicate 32 none
  victim := 0
  walks := []
  rewalk := []

/-- R85. -/
def SettleQueue.empty : SettleQueue := ⟨[], none, none⟩

/-- R85. -/
def Capture.reset : Capture := ⟨[], some 1, none, []⟩

/-- R103. -/
def Spill.reset : Spill := ⟨false, 0, 0, 0, 0, [], []⟩

/-- R109 to R114, R123. -/
def TimeBase.reset : TimeBase where
  timebase := 0
  lastEdge := none
  present := false
  refState := .free
  onceLocked := false
  lockUp := 0
  period := 100000
  pendingSync := none
  syncIndex := 0
  nextEpoch := 100000

/-- R113 to R118, R123. -/
def HeadTime.reset : HeadTime := ⟨0, 0, none, [], none, none, 500⟩

/-- R127. -/
def Timing.reset : Timing := ⟨15, 15, 25, 160, 200⟩

/-- R125. -/
def MemCtl.reset : MemCtl where
  state := .uninitialized
  initPhase := none
  exitBegan := none
  quiesce := false
  interleave := .k8
  refreshInterval := 8
  timing := Timing.reset
  x1 := false
  x2 := false
  x3 := false
  owed := 0
  nextRefresh := none
  openRows := [none, none, none, none]
  running := none
  walkQueue := []
  spillQueue := []
  mgmt := none

/-- R158, R160, R164, R165. -/
def Report.reset : Report := ⟨[], 0, none, .all none, none, .all ⟨10, 10, 0⟩⟩

/-- R143. -/
def HeadPort.reset : HeadPort := ⟨false, 0, [], none, 0, none⟩

/-- R143. -/
def Uplink.reset : Uplink := ⟨false, 0, [], [], 0, false, none⟩

/-- R181. -/
def FaultRecord.empty : FaultRecord := ⟨none, []⟩

/-- The part right after a hard reset (R184, R189's hard-reset values of every chapter). -/
def State.reset : State where
  pending := []
  freeCount := 0
  resetCount := 0
  service := .start
  restartMark := false
  headFaults := .all FaultRecord.empty
  partFault := FaultRecord.empty
  measure := .all Measure.reset
  ctx := .all Context.reset
  settings := .all TrackSettings.reset
  lookup := Lookup.reset
  waiting := .all none
  settle := .all SettleQueue.empty
  behind := .all []
  capture := Capture.reset
  spill := Spill.reset
  time := TimeBase.reset
  headTime := .all HeadTime.reset
  mem := MemCtl.reset
  cells := []
  report := Report.reset
  ports := .all HeadPort.reset
  uplink := Uplink.reset
  mgmt := ⟨none, none⟩

end Sys2Proof.Machine
end

