-- ==== Sys2Proof/Machine/Codes.lean ====
section
/-! DEFINITION. The code tables of R154 to R156 and R173: what each state, mark, cause, fault, status and requester is as one
byte of a frame or an answer. -/

namespace Sys2Proof.Machine
open Sys2Proof

/-- Tracking and context states (R154). -/
def CtxState.code : CtxState → Nat
  | .offline => 0 | .disabled => 1 | .locked => 2 | .coasting => 3
  | .searching => 4 | .settling => 5 | .lost => 6 | .parked => 7

/-- STATE causes (R155). -/
def StateCause.code : StateCause → Nat
  | .returnLost => 1 | .returnFound => 2 | .slip => 3 | .coastLimit => 4 | .searchExhausted => 5 | .anchored => 6
  | .anchorFail => 7 | .silence => 8 | .motionCommand => 9 | .aim => 10 | .disable => 11 | .enable => 12
  | .park => 13 | .wake => 14

/-- Fault codes (R155). -/
def FaultKind.code : FaultKind → Nat
  | .linkSilent => 1 | .sampleSequence => 2 | .searchExhausted => 3 | .anchorFail => 4 | .distSlip => 5
  | .cellOverflow => 6 | .captureRefused => 7 | .triggerOverrun => 8
  | .refLost => 16 | .badLink => 17 | .chainLimit => 18 | .spillFull => 19

/-- Status codes (R156). -/
def Status.code : Status → Nat
  | .ok => 0 | .badLength => 1 | .badValue => 2 | .wrongState => 3 | .notReady => 4
  | .align => 5 | .address => 6 | .pinLimit => 7 | .unknownKind => 8

/-- Service states (R173). -/
def ServiceState.code : ServiceState → Nat
  | .start => 0 | .init => 1 | .active => 2 | .hold => 3 | .quiescing => 4 | .standby => 5 | .waking => 6

/-- Memory states (R173). -/
def MemState.code : MemState → Nat
  | .uninitialized => 0 | .initializing => 1 | .ready => 2 | .selfRefresh => 3 | .exiting => 4

/-- Reference states (R173). -/
def RefState.code : RefState → Nat
  | .free => 0 | .acquiring => 1 | .locked => 2 | .holdover => 3

/-- Time quality (R155). -/
def TimeQuality.code : TimeQuality → Nat
  | .free => 0 | .holdover => 1 | .locked => 2

/-- The requester of an access (R173). -/
def Access.requesterCode : Access → Nat
  | .walk _ => 0 | .writeback _ _ => 1 | .spill _ => 2 | .mgmt _ => 3 | .refresh => 4

/-- Point states (R173). -/
def PointState.code : PointState → Nat
  | .open => 0 | .captured => 1 | .disabled => 2

/-- Slots (R173). -/
def Slot.code : Slot → Nat
  | .a => 0 | .b => 1

/-- Capture modes (R173). -/
def CaptureMode.code : CaptureMode → Nat
  | .auto => 0 | .triggered => 1

/-- Interleave codes (R172). -/
def Interleave.code : Interleave → Nat
  | .k2 => 0 | .k8 => 1 | .k32 => 2 | .m1 => 3

/-- The bytes of an interleave (R125). -/
def Interleave.bytes : Interleave → Nat
  | .k2 => 2048 | .k8 => 8192 | .k32 => 32768 | .m1 => 1048576

/-- Event kinds (R155). -/
def Event.code : Event → Nat
  | .state _ _ _ => 1 | .fault _ _ => 2 | .timeQuality _ _ _ => 3 | .triggerExpired _ _ => 4 | .decimation _ _ => 5

/-- The code of an event slot's content: its event's kind, or 0 when empty (R173). -/
def slotCode : Option HeldEvent → Nat
  | some h => h.event.code
  | none => 0

/-- The visiting pointer's code: 0 to 3 for a head's slot, 255 for the part slot (R173); the subject codes of R155. -/
def subjectCode : Option Head → Nat
  | some n => headNumber n
  | none => 255

/-- Frame kind of a report frame (R153). -/
def ReportKind.code : ReportKind → Nat
  | .position => kindPosition | .capture => kindCapture | .event => kindEvent | .answer _ => kindAnswer

/-- The request kind codes of R156. -/
def Work.kind : Work → Nat
  | .tableConfig _ _ _ => 11
  | .pinForCharge _ => 18
  | .pinForWalk _ => 18
  | .pointBlocked _ _ _ => 20
  | .pointWrite _ _ => 20
  | .memWriteBlocked _ _ => 15
  | .memWrite _ _ => 15
  | .memRead _ _ => 5
  | .setActive => 23
  | .setStandby => 23
  | .setWake => 23
  | .restart => 24

/-- The event data of a held event: twelve bytes, laid out by kind, the rest 0 (R155). -/
def Event.data : Event → List Byte
  | .state old new cause => padTo 12 [byteOf old.code, byteOf new.code, byteOf cause.code]
  | .fault kind detail => padTo 12 (byteOf kind.code :: natLE 8 detail)
  | .timeQuality old new time => padTo 12 ([byteOf old.code, byteOf new.code] ++ natLE 8 time)
  | .triggerExpired index time => padTo 12 (natLE 2 index ++ natLE 8 time)
  | .decimation v doubled => padTo 12 ([byteOf v.h0, byteOf v.h1, byteOf v.h2, byteOf v.h3] ++ markByte doubled)

/-- An Event payload: kind, subject, superseded mark, data (R155). -/
def eventPayload (subject : Option Head) (h : HeldEvent) : List Byte :=
  [byteOf h.event.code, byteOf (subjectCode subject)] ++ markByte h.superseded ++ h.event.data

end Sys2Proof.Machine
end

