-- ==== Sys2Proof/Machine/Ops.lean ====
section
/-! DEFINITION. The named operations over one head's share of the state, the clamps, and the draw of a free choice. Every
other file writes the state through these and through whole-block updates. -/

namespace Sys2Proof.Machine
open Sys2Proof

/-! ### Clamps -/

/-- A clamped value: the nearest end of its legal range (00_scope.md, "Clamped, saturated, refused"). -/
def clampNat (lo hi v : Nat) : Nat := if v < lo then lo else if hi < v then hi else v

/-- The same for a signed value. -/
def clampInt (lo hi v : Int) : Int := if v < lo then lo else if hi < v then hi else v

/-! ### One head's share of the state -/

namespace State

def setCtx (s : State) (n : Head) (c : Context) : State := { s with ctx := s.ctx.set n c }
def setSettings (s : State) (n : Head) (v : TrackSettings) : State := { s with settings := s.settings.set n v }
def setMeasure (s : State) (n : Head) (m : Measure) : State := { s with measure := s.measure.set n m }
def setHeadTime (s : State) (n : Head) (h : HeadTime) : State := { s with headTime := s.headTime.set n h }
def setPort (s : State) (n : Head) (p : HeadPort) : State := { s with ports := s.ports.set n p }
def setWaiting (s : State) (n : Head) (w : Option WaitingSample) : State := { s with waiting := s.waiting.set n w }
def setSettle (s : State) (n : Head) (q : SettleQueue) : State := { s with settle := s.settle.set n q }
def setBehind (s : State) (n : Head) (l : List Handed) : State := { s with behind := s.behind.set n l }
def setHeadFault (s : State) (n : Head) (r : FaultRecord) : State := { s with headFaults := s.headFaults.set n r }
def setDecimation (s : State) (n : Head) (d : Decimation) : State :=
  { s with report := { s.report with decimation := s.report.decimation.set n d } }

end State

/-! ### Free choices (logs 2, 7, 8) -/

/-- The entries of a list in the order the k-th permutation puts them, fuel steps deep. -/
def permuteFuel {α : Type} : Nat → Nat → List α → List α
  | 0, _, l => l
  | f + 1, k, l =>
    match l[k % l.length]? with
    | some a => a :: permuteFuel f (k / l.length) (l.eraseIdx (k % l.length))
    | none => l

/-- The entries of a list in the order the k-th permutation puts them. -/
def permute {α : Type} (k : Nat) (l : List α) : List α := permuteFuel l.length k l

/-- A list in an order the spec leaves open. Nothing is drawn where there is nothing to choose. -/
def freelyOrdered {α : Type} (l : List α) (s : State) : List α × State :=
  if l.length ≤ 1 then (l, s)
  else (permute (Config.freeChoice s.freeCount) l, { s with freeCount := s.freeCount + 1 })

/-! ### Sync indices -/

/-- The index before (R32). -/
def indexBefore (i : Nat) : Nat := (i + (Config.indexModulus - 1)) % Config.indexModulus

/-- The index after (R88, R114). -/
def indexAfter (i : Nat) : Nat := (i + 1) % Config.indexModulus

/-- (a - b) modulo 2^16 (R36, R43). -/
def indexGap (a b : Nat) : Nat := (((a : Int) - (b : Int)) % 65536).toNat

/-- The sync index of a head's most recent sync expiry, if it has had one: the newest entry of its history (R32, R117). -/
def latestIndex (h : HeadTime) : Option Nat := h.history.getLast?.map HistoryEntry.index

end Sys2Proof.Machine
end

