-- ==== Sys2Proof/Machine/Links.lean ====
section
/-! DEFINITION. The ports (Chapter 7): counting bad frames, the link state, the choice of the next frame on each outgoing
side, and what ends a transmission. -/

namespace Sys2Proof.Machine
open Sys2Proof

/-! ### Head ports -/

/-- The frame of a Steer slot as it begins transmission (R152). -/
def steerBytes (n : Head) (f : SteerFrame) : List Byte :=
  buildFrame kindSteer (headCode n) codePart f.tag 0 f.payload

/-- The next frame of a head port whose transmitter is idle: the Steer slot, then the oldest of the forward buffer
(R149, R150). A Head Command leaves the buffer when its transmission begins (DESIGN CHOICE, log 15). -/
def HeadPort.choose (n : Head) (p : HeadPort) : HeadPort :=
  if !p.up || p.sending.isSome then p
  else match p.steer with
    | some f => { p with sending := some (steerBytes n f), steer := none }
    | none =>
      match p.forward with
      | f :: rest => { p with sending := some f, forward := rest }
      | [] => p

/-- A head port's transmitter chooses (R149). -/
def State.kickHead (s : State) (n : Head) : State := s.setPort n ((s.ports.get n).choose n)

/-- A Steer frame enters the Steer slot with the next Steer tag, replacing one not begun (R150). -/
def HeadPort.placeSteer (p : HeadPort) (payload : List Byte) : HeadPort :=
  { p with steer := some ⟨byteOf p.steerTag, payload⟩, steerTag := (p.steerTag + 1) % 256 }

/-! ### The uplink -/

/-- The frame at the head of the report queue as it begins transmission, with its tag (R151, R152). -/
def reportBytes (tag : Nat) (f : ReportFrame) : List Byte :=
  match f.kind with
  | .answer t => buildFrame f.kind.code codeSurvey codePart t 0 f.payload
  | _ => buildFrame f.kind.code codeSurvey codePart (byteOf tag) 0 f.payload

/-- The report tag after a frame has begun transmission: an answer does not use it (R151). -/
def tagAfter (tag : Nat) (f : ReportFrame) : Nat :=
  match f.kind with
  | .answer _ => tag
  | _ => (tag + 1) % 256

/-- The uplink with the oldest report frame in transmission (R151). -/
def Uplink.sendReport (u : Uplink) (f : ReportFrame) : Uplink :=
  { u with sending := some ⟨.report, reportBytes u.reportTag f⟩, reportTag := tagAfter u.reportTag f, servedReport := true }

/-- The uplink with the oldest forwarded frame in transmission (R151). -/
def Uplink.sendForward (u : Uplink) (f : List Byte) : Uplink :=
  { u with sending := some ⟨.forward, f⟩, servedReport := false }

/-- The next frame of an idle uplink: of two sources that hold a frame, the one not last served (R149, R151). -/
def Uplink.choose (u : Uplink) (queue : List ReportFrame) : Uplink :=
  if !u.up || u.sending.isSome then u
  else match queue, u.forward with
    | r :: _, f :: _ => if u.servedReport then u.sendForward f else u.sendReport r
    | r :: _, [] => u.sendReport r
    | [], f :: _ => u.sendForward f
    | [], [] => u

/-- The uplink's transmitter chooses (R149). -/
def State.kickUplink (s : State) : State := { s with uplink := s.uplink.choose s.report.queue }

/-! ### Counting and link state -/

/-- A bad-frame count one higher, saturating (R143, R144). -/
def countUp (c : Nat) : Nat := min 65535 (c + 1)

/-- A frame is discarded and counted at its port (R144, R147, R148). -/
def State.countBad (s : State) : Port → State
  | .head n => s.setPort n { s.ports.get n with bad := countUp (s.ports.get n).bad }
  | .uplink => { s with uplink := { s.uplink with bad := countUp s.uplink.bad } }

/-- A port's link state becomes UP with a good frame (R146), and a transmitter with frames waiting chooses (R149). -/
def State.linkUp (s : State) : Port → State
  | .head n => (s.setPort n { s.ports.get n with up := true }).kickHead n
  | .uplink => { s with uplink := { s.uplink with up := true } }.kickUplink

/-! ### Forward buffers -/

/-- A Head Status frame joins the uplink forward buffer, or is discarded and counted when it is full (R147). -/
def State.forwardUp (s : State) (n : Head) (f : List Byte) : State :=
  if s.uplink.forward.length < Config.forwardPlaces then
    { s with uplink := { s.uplink with forward := s.uplink.forward ++ [f] } }.kickUplink
  else s.countBad (.head n)

/-- A Management Request joins its buffer, or is discarded and counted when it is full (R148). -/
def State.bufferRequest (s : State) (f : List Byte) : State :=
  if s.uplink.requests.length < Config.requestPlaces then
    { s with uplink := { s.uplink with requests := s.uplink.requests ++ [⟨frameTag f, framePayload f⟩] } }
  else s.countBad .uplink

end Sys2Proof.Machine
end

