-- ==== Sys2Proof/Machine/Flags.lean ====
section
/-! DEFINITION. The sample flags (R5, R6): the empty set, what each stage adds, the flags that bar a sample from capture
(R86) and the flags byte of a Position frame (R154). -/

namespace Sys2Proof.Machine

/-- A sample's flags start empty when stage 1 begins (R6). -/
def SampleFlags.none : SampleFlags := ⟨false, false, false, false, false, false⟩

/-- The flags that make a sample ineligible for capture (R86). -/
def SampleFlags.any (f : SampleFlags) : Bool :=
  f.psdClamp || f.elevClamp || f.distRange || f.distCoarse || f.coordSat || f.noDist

/-- The sample flags byte of a Position frame (R154). -/
def SampleFlags.code (f : SampleFlags) : Nat :=
  (if f.psdClamp then 1 else 0) + (if f.elevClamp then 2 else 0) + (if f.distRange then 4 else 0) +
  (if f.distCoarse then 8 else 0) + (if f.coordSat then 16 else 0) + (if f.noDist then 32 else 0)

end Sys2Proof.Machine
end

