-- ==== Sys2Proof/Machine/Measurement.lean ====
section
/-! DEFINITION. Chapter 1: the measurement stages on exact integers. Division by a positive number is floor division. -/

namespace Sys2Proof.Machine
open Sys2Proof

/-! ### Stage 1: encoder correction -/

/-- The turn position of an axis: the raw angle modulo 2^24 (R8). -/
def turnPosition (raw : Int) : Int := raw % Config.turn

/-- An entry of a compensation table. -/
def compEntry (t : List Int) (i : Nat) : Int := t.getD i 0

/-- The error at a turn position, interpolated between two table entries and rounded half up (R9). -/
def encoderError (t : List Int) (p : Int) : Int :=
  let i := (p / Config.segment).toNat
  let f := p % Config.segment
  let j := if i = 255 then 0 else i + 1
  compEntry t i + ((compEntry t j - compEntry t i) * f + 32768) / 65536

/-! ### Stage 2: PSD offset and corrected angles -/

/-- A conditioned PSD offset: the deadband, then the clamp at 2,048 (R10). -/
def conditionPsd (deadband : Nat) (v : Int) : Int :=
  if v.natAbs ≤ deadband then 0 else clampInt (-2048) 2048 v

/-- A PSD offset lies beyond the clamp (R10). -/
def psdClamped (v : Int) : Bool := v > 2048 || v < -2048

/-- The corrected azimuth (R11). -/
def correctedAzimuth (m : Measure) (r : RawSample) : Int :=
  ((r.azimuth : Int) - encoderError m.compAz (turnPosition r.azimuth) + conditionPsd m.deadband r.psdX) % Config.turn

/-- The corrected elevation before its clamp (R12). -/
def rawCorrectedElevation (m : Measure) (r : RawSample) : Int :=
  r.elevation - encoderError m.compEl (turnPosition r.elevation) + conditionPsd m.deadband r.psdY

/-- A quarter turn either way is the limit of an elevation (R12, R43, R46, R51). -/
def clampElevation (e : Int) : Int := clampInt (-Config.quarterTurn) Config.quarterTurn e

/-- The corrected elevation (R12). -/
def correctedElevation (m : Measure) (r : RawSample) : Int := clampElevation (rawCorrectedElevation m r)

/-! ### Stage 3: distance -/

/-- The interferometer term of a count: count times scale over 2^32, rounded half up (R13, R16). -/
def interferometerTerm (count : Int) (scale : Nat) : Int := (count * (scale : Int) + 2147483648) / 4294967296

/-- The distance with its DIST_RANGE flag, for the interferometer (R13). -/
def interferometerDistance (m : Measure) (count : Int) : Int × Bool :=
  let d := m.anchor + interferometerTerm count m.countScale
  (clampInt 0 m.distanceMax d, d < 0 || d > (m.distanceMax : Int))

/-- The distance with its DIST_RANGE flag, for the ADM (R14). -/
def admDistance (m : Measure) (adm : Nat) : Int × Bool :=
  (if adm > m.distanceMax then (m.distanceMax : Int) else (adm : Int), adm > m.distanceMax)

/-- The anchor a re-anchor writes (R16). -/
def anchorFrom (m : Measure) (l : LatestSample) : Int := (l.adm : Int) - interferometerTerm l.count m.countScale

/-! ### Stage 4: sine and cosine -/

/-- The quarter-turn sine S (R18). -/
def quarterSine (v : Nat) : Int :=
  let j := v / 4096
  let g := v % 4096
  if g = 0 then (sineTable j : Int)
  else (sineTable j : Int) + (((sineTable (j + 1) : Int) - (sineTable j : Int)) * (g : Int) + 2048) / 4096

/-- The sine of an angle in counts, by quadrant (R19). -/
def sine (x : Int) : Int :=
  let t := (x % Config.turn).toNat
  let u := t % 4194304
  match t / 4194304 with
  | 0 => quarterSine u
  | 1 => quarterSine (4194304 - u)
  | 2 => -quarterSine u
  | _ => -quarterSine (4194304 - u)

/-- The cosine: the sine a quarter turn further on (R19). -/
def cosine (x : Int) : Int := sine (x + Config.quarterTurn)

/-! ### Stage 5: station Cartesian -/

/-- A product divided by 2^30 and rounded half up (R20, R22). -/
def over30 (p : Int) : Int := (p + 536870912) / 1073741824

/-- The station position from distance and corrected angles (R20). -/
def stationPosition (d az el : Int) : Vec3 :=
  let h := over30 (d * cosine el)
  ⟨over30 (h * cosine az), over30 (h * sine az), over30 (d * sine el)⟩

/-! ### Stage 6: block transform -/

/-- A row of the rotation applied to a station position (R22). -/
def rowTimes (r v : Vec3) : Int := r.x * v.x + r.y * v.y + r.z * v.z

/-- The block position before saturation (R22). -/
def rawBlock (m : Measure) (v : Vec3) : Vec3 :=
  ⟨over30 (rowTimes m.rotation.row1 v) + m.translation.x,
   over30 (rowTimes m.rotation.row2 v) + m.translation.y,
   over30 (rowTimes m.rotation.row3 v) + m.translation.z⟩

/-- A block coordinate at the signed 32-bit limits (R22). -/
def saturate (b : Int) : Int := clampInt Config.coordMin Config.coordMax b

/-- A coordinate lies beyond the limits (R22). -/
def saturates (b : Int) : Bool := b > Config.coordMax || b < Config.coordMin

/-- The saturated block position (R22). -/
def blockPosition (m : Measure) (v : Vec3) : Vec3 :=
  let b := rawBlock m v
  ⟨saturate b.x, saturate b.y, saturate b.z⟩

/-- A coordinate was saturated (R22). -/
def blockSaturated (m : Measure) (v : Vec3) : Bool :=
  let b := rawBlock m v
  saturates b.x || saturates b.y || saturates b.z

/-! ### The stages of one sample -/

/-- The distance source of a sample, by the context's state when it arrives and whether it has a return (R4). -/
def distanceSource (st : CtxState) (ret admValid : Bool) : DistSource :=
  if !ret then .none
  else match st with
    | .locked => .interferometer
    | .settling | .coasting | .searching | .lost | .offline => if admValid then .adm else .none
    | .disabled | .parked => .none

/-- Stage 3 as a whole: the distance, or none, with DIST_RANGE (R13 to R15). -/
def distanceOf (m : Measure) (src : DistSource) (r : RawSample) : Option (Int × Bool) :=
  match src with
  | .interferometer => some (interferometerDistance m r.count)
  | .adm => some (admDistance m r.adm)
  | .none => none

/-- Stages 1 to 6 of one sample on one set of values, with the flags each adds (R3, R5, R6). The tracking state is put in
after the transition (R33). -/
def measureSample (m : Measure) (src : DistSource) (timestamp : Int) (r : RawSample) : MeasuredSample :=
  let az := correctedAzimuth m r
  let el := correctedElevation m r
  let rawEl := rawCorrectedElevation m r
  let dist := distanceOf m src r
  let station := dist.map fun d => stationPosition d.1 az el
  { index := r.index
    timestamp := timestamp
    az := az
    el := el
    dist := dist.map Prod.fst
    block := station.map fun v => ⟨blockPosition m v, m.poseGen⟩
    flags :=
      { psdClamp := psdClamped r.psdX || psdClamped r.psdY
        elevClamp := rawEl > Config.quarterTurn || rawEl < -Config.quarterTurn
        distRange := dist.any Prod.snd
        distCoarse := src = .adm
        coordSat := station.any (blockSaturated m)
        noDist := dist.isNone }
    adm := r.adm
    admValid := r.admValid
    count := r.count
    tracking := .offline }

/-! ### Stage 7: cell key and bucket address -/

/-- The cell key of a block position (R23). -/
def cellKeyOf (shift : Nat) (b : Vec3) : CellKey :=
  let e : Int := ((2 ^ shift : Nat) : Int)
  ⟨b.x / e, b.y / e, b.z / e⟩

/-- The hash of a cell key (R24). -/
def cellHash (bucketCount : Nat) (k : CellKey) : Nat :=
  ((k.cx + 31 * k.cy + 961 * k.cz) % (bucketCount : Int)).toNat

/-- The byte address of a bucket (R24, R59). -/
def bucketAddress (base bucket : Nat) : Nat := base + bucket * Config.bucketBytes

/-! ### Stage 8: deviation and the in-window test -/

/-- The deviation of a position from a nominal position (R25). -/
def deviation (b nominal : Vec3) : Vec3 := ⟨b.x - nominal.x, b.y - nominal.y, b.z - nominal.z⟩

/-- The exact squared distance of a deviation (R25). -/
def squared (d : Vec3) : Int := d.x * d.x + d.y * d.y + d.z * d.z

/-- r squared of a position against a point (R25). -/
def pointDistance (b : Vec3) (p : Point) : Int := squared (deviation b p.nominal)

/-- In window: r squared at or below the tolerance squared (R25). -/
def inWindow (b : Vec3) (p : Point) : Bool := pointDistance b p ≤ (p.tolerance : Int) * (p.tolerance : Int)

/-- A point is nearer than another: a smaller r squared, or the same and a lower id (R26, R87). -/
def nearer (b : Vec3) (p q : Point) : Bool :=
  pointDistance b p < pointDistance b q || (pointDistance b p == pointDistance b q && p.id < q.id)

/-- The nearest of the points that are not DISABLED; of equals the earlier in the list (R26, R87). -/
def nearestPoint (b : Vec3) (ps : List Point) : Option Point :=
  ps.foldl (fun best p =>
    if p.state = .disabled then best
    else match best with
      | none => some p
      | some q => if nearer b p q then some p else best) none

/-- A deviation clamped for a report, each axis to 32,767 either way (R26, R28). -/
def clampDeviation (d : Vec3) : Vec3 :=
  ⟨clampInt (-32767) 32767 d.x, clampInt (-32767) 32767 d.y, clampInt (-32767) 32767 d.z⟩

/-! ### Stage 9: the capture mean -/

/-- A sum over k entries divided to the nearest, midway values away from zero (R27). -/
def meanOf (sum : Int) (k : Nat) : Int :=
  if 0 ≤ sum then (2 * sum + (k : Int)) / (2 * (k : Int)) else -((2 * (-sum) + (k : Int)) / (2 * (k : Int)))

/-- The mean position of the entries averaged (R27). -/
def meanPosition (ps : List Vec3) : Vec3 :=
  ⟨meanOf (ps.map Vec3.x).sum ps.length, meanOf (ps.map Vec3.y).sum ps.length, meanOf (ps.map Vec3.z).sum ps.length⟩

end Sys2Proof.Machine
end

