-- ==== Sys2Proof/Machine/Reporting.lean ====
section
/-! DEFINITION. The report unit's shared operations (Chapter 8): occupancy and its crossings, entry into the report queue,
reservations, event slots, and answers. -/

namespace Sys2Proof.Machine
open Sys2Proof

/-! ### Event slots -/

/-- A slot with an event placed in it: superseding what it held (R164). -/
def placed (slot : Option HeldEvent) (e : Event) : Option HeldEvent := some ⟨e, slot.isSome⟩

/-- The content of an event slot; none names the part slot (R164). -/
def Report.slot (r : Report) : Option Head → Option HeldEvent
  | none => r.partSlot
  | some n => r.headSlots.get n

/-- The report unit with one event slot replaced. -/
def Report.setSlot (r : Report) (k : Option Head) (h : Option HeldEvent) : Report :=
  match k with
  | none => { r with partSlot := h }
  | some n => { r with headSlots := r.headSlots.set n h }

/-- An event is placed in a slot (R164). -/
def State.placeEvent (s : State) (k : Option Head) (e : Event) : State :=
  { s with report := s.report.setSlot k (placed (s.report.slot k) e) }

/-- Two events reach one slot at the same instant: either may be taken first, and the one taken second is held, superseded
(R164; log 7). -/
def State.placeBoth (s : State) (k : Option Head) (e₁ e₂ : Event) : State :=
  { s with
    freeCount := s.freeCount + 1
    report := s.report.setSlot k (some ⟨if Config.freeChoice s.freeCount % 2 = 0 then e₂ else e₁, true⟩) }

/-! ### Occupancy -/

/-- The frames held plus the reserved places (R158). -/
def Report.occupancy (r : Report) : Nat := r.queue.length + r.reserved

/-- The number of Position frames held (R158). -/
def Report.posCount (r : Report) : Nat := r.queue.countP fun f => f.kind = .position

/-- A non-POS place is free (R158). -/
def Report.placeFree (r : Report) : Bool := r.occupancy < Config.queuePlaces

/-- A Position frame may enter (R158). -/
def Report.positionFits (r : Report) : Bool := r.posCount < Config.positionPlaces && r.occupancy < Config.queuePlaces

/-- Twice an effective decimation, or 64 (R162). -/
def Decimation.double (d : Decimation) : Decimation := { d with effective := min 64 (2 * d.effective) }

/-- Half an effective decimation, or the configured one (R163). -/
def Decimation.halve (d : Decimation) : Decimation := { d with effective := max d.configured (d.effective / 2) }

/-- Every head's decimation changed, with a DECIMATION event when one effective value changed (R162, R163). -/
def State.redecimate (s : State) (f : Decimation → Decimation) (doubled : Bool) : State :=
  let old := s.report.decimation
  let new := old.map f
  if new.map Decimation.effective = old.map Decimation.effective then s
  else { s with report := { s.report with decimation := new } }.placeEvent none
    (.decimation (new.map Decimation.effective) doubled)

/-- The occupancy has risen by one: from 35 to 36 it doubles the effective decimations (R162). -/
def State.afterRise (s : State) : State :=
  if s.report.occupancy = Config.highWater then s.redecimate Decimation.double true else s

/-- The occupancy has fallen by one: from 13 to 12 it halves the effective decimations (R163). -/
def State.afterFall (s : State) : State :=
  if s.report.occupancy = Config.lowWater then s.redecimate Decimation.halve false else s

/-- A frame enters a place that was not reserved (R158). -/
def State.enqueue (s : State) (f : ReportFrame) : State :=
  { s with report := { s.report with queue := s.report.queue ++ [f] } }.afterRise.kickUplink

/-- A place is reserved (R158, R166). -/
def State.reserve (s : State) : State :=
  { s with report := { s.report with reserved := s.report.reserved + 1 } }.afterRise

/-- A reservation is released without a frame (R166). -/
def State.release (s : State) : State :=
  { s with report := { s.report with reserved := s.report.reserved - 1 } }.afterFall

/-- A frame enters its reserved place; the occupancy does not change (R158). -/
def State.enqueueReserved (s : State) (f : ReportFrame) : State :=
  { s with report := { s.report with queue := s.report.queue ++ [f], reserved := s.report.reserved - 1 } }.kickUplink

/-! ### Answers -/

/-- A Management Answer: kind, status, and data where the status is OK (R156). -/
def answerFrame (tag : Byte) (kind : Nat) (st : Status) (data : List Byte) : ReportFrame :=
  ⟨.answer tag, [byteOf kind, byteOf st.code] ++ (if st = .ok then data else [])⟩

/-- An answer is complete: no request is in hand any more, and the answer enters the report queue or is held
(R167, R169). The drain of a soft restart holds it (R168). -/
def State.giveAnswer (s : State) (tag : Byte) (kind : Nat) (st : Status) (data : List Byte) : State :=
  let f := answerFrame tag kind st data
  let s := { s with mgmt := { s.mgmt with inHand := none } }
  if s.report.placeFree && s.mgmt.held.isNone && !s.restartMark then s.enqueue f
  else { s with mgmt := { s.mgmt with held := some f } }

/-- The request in hand is answered. -/
def State.answerInHand (s : State) (st : Status) (data : List Byte) : State :=
  match s.mgmt.inHand with
  | some h => s.giveAnswer h.tag h.work.kind st data
  | none => s

/-! ### Position reports -/

/-- The result bits of the lookup byte (R154). -/
def LookupResult.code : LookupResult → Nat
  | .noPosition => 0
  | .noTable => 1
  | .record _ => 2
  | .late => 3

/-- The cell record a sample carries, if it carries one (R63). -/
def LookupResult.recordOf : LookupResult → Option CellRecord
  | .record r => some r
  | _ => none

/-- The point a Position report shows: the nearest of the sample's record copy (R26). -/
def shownPoint (h : Handed) : Option Point :=
  match h.sample.block, h.result.recordOf with
  | some b, some r => nearestPoint b.pos r.points
  | _, _ => none

/-- The lookup byte of a Position frame (R154). -/
def lookupByte (h : Handed) : Nat :=
  h.result.code + (if (shownPoint h).isSome then 4 else 0) +
  (if h.result.recordOf.any CellRecord.incomplete then 8 else 0) +
  (if h.result.recordOf.any CellRecord.overflow then 16 else 0)

/-- Three signed 32-bit coordinates. -/
def vecLE (k : Nat) (v : Vec3) : List Byte := intLE k v.x ++ intLE k v.y ++ intLE k v.z

/-- A Position payload of 26 bytes (R154). -/
def positionPayload (n : Head) (h : Handed) : List Byte :=
  let pos := (h.sample.block.map BlockPos.pos).getD ⟨0, 0, 0⟩
  let dev := match shownPoint h with
    | some p => clampDeviation (deviation pos p.nominal)
    | none => ⟨0, 0, 0⟩
  [byteOf (headNumber n)] ++ natLE 2 h.sample.index ++ [byteOf h.sample.tracking.code] ++ vecLE 4 pos ++
    natLE 2 (((shownPoint h).map Point.id).getD 0) ++ vecLE 2 dev ++
    [byteOf h.sample.flags.code, byteOf (lookupByte h)]

/-- A sample is handed on to the report unit: the decimation count chooses it or not, and a chosen sample becomes a
Position frame that enters or is dropped (R98, R160). -/
def State.reportSample (s : State) (n : Head) (h : Handed) : State :=
  let d := s.report.decimation.get n
  if d.count + 1 ≥ d.effective then
    let s := s.setDecimation n { d with count := 0 }
    if s.report.positionFits then s.enqueue ⟨.position, positionPayload n h⟩ else s
  else s.setDecimation n { d with count := d.count + 1 }

end Sys2Proof.Machine
end

