-- ==== Sys2Proof/Machine/Faults.lean ====
section
/-! DEFINITION. Fault records (R181, R182): raising a fault, and raising one in the same instant as another event of its slot.
Also the change of a context's state with its STATE event (R55). -/

namespace Sys2Proof.Machine
open Sys2Proof

/-- A code joins the set of further kinds, kept in increasing code order, once at most (R181). -/
def insertKind (k : FaultKind) : List FaultKind → List FaultKind
  | [] => [k]
  | a :: rest => if k.code < a.code then k :: a :: rest else if k = a then a :: rest else a :: insertKind k rest

/-- A fault written into a record: as the first fault, or into the set of further kinds (R182). -/
def FaultRecord.write (r : FaultRecord) (kind : FaultKind) (time detail : Nat) : FaultRecord :=
  match r.first with
  | none => { r with first := some ⟨kind, time, detail⟩ }
  | some _ => { r with further := insertKind kind r.further }

/-- The record of a subject; none names the part's (R181). -/
def State.faultRecord (s : State) : Option Head → FaultRecord
  | none => s.partFault
  | some n => s.headFaults.get n

/-- The state with a subject's record replaced. -/
def State.setFault (s : State) (k : Option Head) (r : FaultRecord) : State :=
  match k with
  | none => { s with partFault := r }
  | some n => s.setHeadFault n r

/-- A fault is raised into its record; a first fault also places a FAULT event (R182). -/
def State.raise (s : State) (k : Option Head) (kind : FaultKind) (detail : Nat) : State :=
  let r := s.faultRecord k
  let s' := s.setFault k (r.write kind s.time.timebase detail)
  if r.first.isNone then s'.placeEvent k (.fault kind detail) else s'

/-- A fault raised at the same instant as another event of the same slot (R164, R182; log 7). -/
def State.raiseWith (s : State) (k : Option Head) (kind : FaultKind) (detail : Nat) (e : Event) : State :=
  let r := s.faultRecord k
  let s' := s.setFault k (r.write kind s.time.timebase detail)
  if r.first.isNone then s'.placeBoth k e (.fault kind detail) else s'.placeEvent k e

/-- A head context with its state changed takes its place, and a STATE event is placed (R55). -/
def State.changeState (s : State) (n : Head) (c : Context) (new : CtxState) (cause : StateCause) : State :=
  (s.setCtx n { c with state := new }).placeEvent (some n) (.state (s.ctx.get n).state new cause)

/-- The same with a head fault raised at the same instant (R34, R37, R47, R49). -/
def State.changeStateWithFault (s : State) (n : Head) (c : Context) (new : CtxState) (cause : StateCause)
    (kind : FaultKind) (detail : Nat) : State :=
  (s.setCtx n { c with state := new }).raiseWith (some n) kind detail (.state (s.ctx.get n).state new cause)

end Sys2Proof.Machine
end

