-- ==== Sys2Proof/Machine/Steering.lean ====
section
/-! DEFINITION. The tracking unit's shared operations (Chapter 2): Steer frames, the velocity, the prediction, the spiral
search, the entries to SETTLING and SEARCHING, and parking. -/

namespace Sys2Proof.Machine
open Sys2Proof

/-! ### Steer frames -/

/-- Steer modes (R154). -/
inductive SteerMode where
  | follow | point
  deriving DecidableEq, Repr

/-- Steer reasons (R154). -/
inductive SteerReason where
  | none | coast | search | aim | park
  deriving DecidableEq, Repr

/-- The code of a Steer mode (R154). -/
def steerModeCode : SteerMode → Nat
  | .follow => 0 | .point => 1

/-- The code of a Steer reason (R154). -/
def steerReasonCode : SteerReason → Nat
  | .none => 0 | .coast => 1 | .search => 2 | .aim => 3 | .park => 4

/-- A Steer payload of 10 bytes (R154). -/
def steerPayload (index : Nat) (mode : SteerMode) (reason : SteerReason) (az el : Int) : List Byte :=
  natLE 2 index ++ [byteOf (steerModeCode mode), byteOf (steerReasonCode reason)] ++ natLE 3 az.toNat ++ intLE 3 el

/-- The sync index a Steer frame carries: that of the head's most recent expiry (R54); before the first, a free value
(log 9). -/
def State.steerIndex (s : State) (n : Head) : Nat :=
  match latestIndex (s.headTime.get n) with
  | some i => i
  | none => (Config.unstatedSteerIndex s.freeCount).toNat

/-- A free value has been drawn where the head has had no expiry (log 9). -/
def State.steerDrawn (s : State) (n : Head) : State :=
  match latestIndex (s.headTime.get n) with
  | some _ => s
  | none => { s with freeCount := s.freeCount + 1 }

/-- A Steer frame is handed to its head's port (R54, R150), which drops it while its link is DOWN (R146). -/
def State.steer (s : State) (n : Head) (mode : SteerMode) (reason : SteerReason) (az el : Int) : State :=
  let p := s.ports.get n
  if p.up then
    ((s.steerDrawn n).setPort n (p.placeSteer (steerPayload (s.steerIndex n) mode reason az el))).kickHead n
  else s

/-! ### Velocity and prediction -/

/-- The settle length of a settle select (R30). -/
def settleLength (sel : Nat) : Nat :=
  match sel with
  | 0 => 64
  | 1 => 128
  | 2 => 256
  | _ => 512

/-- An azimuth difference taken the short way round; half a turn exactly stays positive (R36). -/
def shortWay (d : Int) : Int :=
  let m := d % Config.turn
  if m > 8388608 then m - Config.turn else m

/-- A rate: the difference over the gap, rounded half up and clamped (R36). -/
def rate (d : Int) (gap maxRate : Nat) : Int :=
  clampInt (-(maxRate : Int)) maxRate ((2 * d + (gap : Int)) / (2 * (gap : Int)))

/-- The azimuth and elevation rates formed from two locked samples (R36). -/
def velocityFrom (prev new : LockedSample) (maxRate : Nat) : Int × Int :=
  let g := indexGap new.index prev.index
  (rate (shortWay (new.az - prev.az)) g maxRate, rate (new.el - prev.el) g maxRate)

/-- The locked history with a new newest sample, and the velocity recomputed when both places hold one (R35). -/
def Context.pushLocked (c : Context) (new : LockedSample) (maxRate : Nat) : Context :=
  match c.newest with
  | some p =>
    let v := velocityFrom p new maxRate
    { c with newest := some new, previous := some p, velAz := v.1, velEl := v.2 }
  | none => { c with newest := some new, previous := none }

/-- The predicted angles at an index, from the newest locked sample and the velocity (R43). -/
def Context.predict (c : Context) (index : Nat) : Option (Int × Int) :=
  c.newest.map fun l =>
    let g : Int := (indexGap index l.index : Nat)
    ((l.az + c.velAz * g) % Config.turn, clampElevation (l.el + c.velEl * g))

/-! ### The spiral search -/

/-- The offset at a position of a ring, counted from 1; ring 0 is the centre (R46). -/
def ringOffset (ring pos : Nat) : Int × Int :=
  let r : Int := ring
  let p : Int := pos
  if ring = 0 then (0, 0)
  else if pos ≤ 2 * ring then (r, -r + p)
  else if pos ≤ 4 * ring then (r - (p - 2 * r), r)
  else if pos ≤ 6 * ring then (-r, r - (p - 4 * r))
  else (-r + (p - 6 * r), -r)

/-- The angles of a search record's current position (R46). -/
def SearchRecord.angles (q : SearchRecord) : Int × Int :=
  let o := ringOffset q.ring q.pos
  ((q.centreAz + o.1 * (q.step : Int)) % Config.turn, clampElevation (q.centreEl + o.2 * (q.step : Int)))

/-- The reason of the frame for a search position: AIM at the centre, SEARCH otherwise (R47). -/
def SearchRecord.reason (q : SearchRecord) : SteerReason := if q.ring = 0 then .aim else .search

/-- The next position of a search, or none after the last of the last ring (R46, R47). -/
def SearchRecord.next (q : SearchRecord) : Option SearchRecord :=
  if q.ring = 0 then some { q with ring := 1, pos := 1 }
  else if q.pos < 8 * q.ring then some { q with pos := q.pos + 1 }
  else if q.ring < q.rings then some { q with ring := q.ring + 1, pos := 1 }
  else none

/-- The search record a search starts with (R45). -/
def startRecord (t : TrackSettings) (az el : Int) (centreFirst : Bool) : SearchRecord :=
  ⟨az, el, t.searchStep, t.searchRings, t.searchDwell, if centreFirst then 0 else 1, 1, centreFirst⟩

/-- The Steer frame of a search position (R47). -/
def State.steerSearch (s : State) (n : Head) (q : SearchRecord) : State :=
  s.steer n .point q.reason q.angles.1 q.angles.2

/-- A search is started and its first position steered, with the dwell loaded (R45). The cause is the state change's. -/
def State.startSearch (s : State) (n : Head) (c : Context) (az el : Int) (centreFirst : Bool) (cause : StateCause) : State :=
  let q := startRecord (s.settings.get n) az el centreFirst
  (s.changeState n { c with search := some q, timer := q.dwell } .searching cause).steerSearch n q

/-! ### Entries to states -/

/-- A context on entry to SETTLING: the settle length, one attempt, no search (R39). -/
def Context.enterSettling (c : Context) (t : TrackSettings) : Context :=
  { c with timer := settleLength t.settleSelect, attempts := 1, search := none }

/-- A context on entry to OFFLINE by silence (R34). -/
def Context.enterSilence (c : Context) : Context :=
  { c with timer := 0, search := none, attempts := 0, silence := 0 }

/-- A context parked (R53). -/
def Context.park (c : Context) : Context :=
  { c with timer := 0, silence := 0, attempts := 0, search := none }

/-- A context disabled (R50). -/
def Context.disable (c : Context) : Context :=
  { c with
    timer := 0, silence := 0, attempts := 0, heard := false, search := none, lastIndex := none
    newest := none, previous := none, predicted := none, velAz := 0, velEl := 0 }

/-- A context after a soft restart (R29). -/
def Context.restart (_ : Context) : Context := Context.reset

/-- The angles of a PARK frame: those of the latest sample record, or 0 and 0 (R54). -/
def Context.parkAngles (c : Context) : Int × Int :=
  match c.latest with
  | some l => (l.az, l.el)
  | none => (0, 0)

/-- One head is parked, unless it is DISABLED (R53). -/
def State.parkHead (s : State) (n : Head) : State :=
  let c := s.ctx.get n
  if c.state = .disabled then s
  else (s.changeState n c.park .parked .park).steer n .point .park c.parkAngles.1 c.parkAngles.2

/-- One head leaves PARKED for LOST at the wake (R53). -/
def State.wakeHead (s : State) (n : Head) : State :=
  let c := s.ctx.get n
  if c.state = .parked then s.changeState n c .lost .wake else s

/-! ### The transition of an accepted sample -/

/-- The transition for the context's state and the sample's return (R35 to R41); c is the context with its latest sample
record already replaced. -/
def State.transition (s : State) (n : Head) (c : Context) (m : MeasuredSample) (ret : Bool) : State :=
  let t := s.settings.get n
  let here : LockedSample := ⟨m.az, m.el, m.index⟩
  match c.state, ret with
  | .locked, true =>
    let c := c.pushLocked here t.maxRate
    match m.dist with
    | some d =>
      if m.admValid && ((m.adm : Int) - d).natAbs > t.slipLimit then
        (s.changeStateWithFault n (c.enterSettling t) .settling .slip .distSlip m.index).steer n .follow .none m.az m.el
      else s.setCtx n c
    | none => s.setCtx n c
  | .locked, false =>
    let c := { c with timer := t.coastLimit, predicted := none }
    let c := match c.newest with
      | some _ => c
      | none => { c with newest := some here }
    s.changeState n c .coasting .returnLost
  | .coasting, true | .searching, true | .lost, true | .offline, true =>
    (s.changeState n (c.enterSettling t) .settling .returnFound).steer n .follow .none m.az m.el
  | .settling, false => s.startSearch n { c with attempts := 0 } m.az m.el false .returnLost
  | .offline, false => s.changeState n c .lost .returnLost
  | .settling, true | .coasting, false | .searching, false | .lost, false => s.setCtx n c
  | .disabled, _ | .parked, _ => s.setCtx n c

/-! ### The work of a sync expiry -/

/-- The expiry takes the context to OFFLINE by silence: it hears silence and the count reaches the limit (R34). -/
def Context.silenceTrips (c : Context) (t : TrackSettings) : Bool :=
  match c.state with
  | .offline | .disabled | .parked => false
  | .locked | .coasting | .searching | .settling | .lost =>
    (if c.heard then 0 else c.silence + 1) ≥ t.silenceLimit

/-- The silence count and the heard mark after the expiry's update (R34). -/
def Context.updateSilence (c : Context) : Context :=
  match c.state with
  | .offline | .disabled | .parked => { c with silence := 0, heard := false }
  | .locked | .coasting | .searching | .settling | .lost =>
    { c with silence := if c.heard then 0 else c.silence + 1, heard := false }

/-- The interval timer runs out at this expiry (R42). -/
def Context.runsOut (c : Context) : Bool := c.timer ≤ 1

/-- The expiry in COASTING: a prediction and a COAST frame, or the search around the prediction (R43, R44). -/
def State.coastExpiry (s : State) (n : Head) (c : Context) (index : Nat) : State :=
  match c.predict index with
  | none => s.setCtx n { c with timer := c.timer - 1 }
  | some p =>
    if c.runsOut then s.startSearch n { c with predicted := some p, timer := 0 } p.1 p.2 false .coastLimit
    else (s.setCtx n { c with predicted := some p, timer := c.timer - 1 }).steer n .point .coast p.1 p.2

/-- The expiry in SEARCHING: the current position again, the next one, or the end of the search (R47). -/
def State.searchExpiry (s : State) (n : Head) (c : Context) (index : Nat) : State :=
  match c.search with
  | none => s.setCtx n { c with timer := c.timer - 1 }
  | some q =>
    if c.runsOut then
      match q.next with
      | some q' => (s.setCtx n { c with search := some q', timer := q.dwell }).steerSearch n q'
      | none =>
        s.changeStateWithFault n { c with search := none, timer := 0 } .lost .searchExhausted .searchExhausted index
    else (s.setCtx n { c with timer := c.timer - 1 }).steerSearch n q

/-- The latest sample record of a context has its ADM-valid flag set (R48). -/
def Context.admReady (c : Context) : Option LatestSample := c.latest.filter LatestSample.admValid

/-- A context on entry to LOCKED (R48). -/
def Context.enterLocked (c : Context) : Context :=
  { c with timer := 0, attempts := 0, newest := none, previous := none, velAz := 0, velEl := 0, predicted := none }

/-- The expiry in SETTLING: counting, the re-anchor, a retry, or the end of the third attempt (R48, R49). -/
def State.settleExpiryWork (s : State) (n : Head) (c : Context) (index : Nat) : State :=
  if c.runsOut then
    match c.admReady with
    | some l =>
      let m := s.measure.get n
      (s.setMeasure n { m with anchor := anchorFrom m l }).changeState n c.enterLocked .locked .anchored
    | none =>
      if c.attempts < 3 then
        s.setCtx n { c with attempts := c.attempts + 1, timer := settleLength (s.settings.get n).settleSelect }
      else s.changeStateWithFault n { c with attempts := 0, timer := 0 } .lost .anchorFail .anchorFail index
  else s.setCtx n { c with timer := c.timer - 1 }

/-- The tracking unit's work for head n's expiry with an index (R34, R42). -/
def State.trackExpiry (s : State) (n : Head) (index : Nat) : State :=
  let c := s.ctx.get n
  let c' := c.updateSilence
  if c.silenceTrips (s.settings.get n) then
    s.changeStateWithFault n c'.enterSilence .offline .silence .linkSilent index
  else match c.state with
    | .coasting => s.coastExpiry n c' index
    | .searching => s.searchExpiry n c' index
    | .settling => s.settleExpiryWork n c' index
    | .offline | .disabled | .parked | .locked | .lost => s.setCtx n c'

end Sys2Proof.Machine
end

