-- ==== Sys2Proof/Machine/TimeKeeping.lean ====
section
/-! DEFINITION. The time base's shared operations (Chapter 5): the tick, the reference events, time quality, epochs, the time
base's part of a sync expiry, sample timestamps and trigger records. -/

namespace Sys2Proof.Machine
open Sys2Proof

/-! ### The tick -/

/-- One tick of the time base: the timebase, held at its top value, and the lock-up count while ACQUIRING with the reference
present (R109, R111). The count stays at 2^20 until its event is taken (log 35). -/
def TimeBase.tick (t : TimeBase) : TimeBase :=
  { t with
    timebase := min Config.timebaseMax (t.timebase + 1)
    lockUp := if t.refState = .acquiring && t.present then min Config.lockUpTicks (t.lockUp + 1) else t.lockUp }

/-- One tick of the part. -/
def State.tick (s : State) : State := { s with time := s.time.tick }

/-! ### Reference and time quality -/

/-- The time quality, read from the reference state and the once-locked mark (R112). -/
def TimeBase.quality (t : TimeBase) : TimeQuality :=
  match t.refState with
  | .locked => .locked
  | .holdover => .holdover
  | .acquiring => if t.onceLocked then .holdover else .free
  | .free => .free

/-- The time base after Reference good (R110, R111). -/
def TimeBase.referenceGood (t : TimeBase) : TimeBase :=
  match t.refState with
  | .free | .holdover => { t with present := true, refState := .acquiring, lockUp := 0 }
  | .acquiring | .locked => { t with present := true }

/-- The time base after Reference lost (R110, R111). -/
def TimeBase.referenceLost (t : TimeBase) : TimeBase :=
  match t.refState with
  | .acquiring => { t with present := false, refState := if t.onceLocked then .holdover else .free, lockUp := 0 }
  | .locked => { t with present := false, refState := .holdover }
  | .free | .holdover => { t with present := false }

/-- The time base after the lock-up count has reached 2^20 (R111). -/
def TimeBase.lockUpDone (t : TimeBase) : TimeBase := { t with refState := .locked, onceLocked := true, lockUp := 0 }

/-- The TIME_QUALITY event of a change from one time base to another (R112). -/
def qualityEvent (old new : TimeBase) : Event := .timeQuality old.quality new.quality new.timebase

/-- A new time base takes its place; a change of time quality places a TIME_QUALITY event (R112). -/
def State.setTime (s : State) (t : TimeBase) : State :=
  let s' := { s with time := t }
  if t.quality = s.time.quality then s' else s'.placeEvent none (qualityEvent s.time t)

/-- Reference lost: from LOCKED it raises REF_LOST in the same instant as the TIME_QUALITY event (R111, R112, R164). -/
def State.loseReference (s : State) : State :=
  let t := s.time.referenceLost
  if s.time.refState = .locked then
    { s with time := t }.raiseWith none .refLost s.time.timebase (qualityEvent s.time t)
  else s.setTime t

/-- How an edge is judged by its interval from the one before: 9 to 11 ticks are good (R110). -/
def goodInterval (d : Nat) : Bool := 9 ≤ d && d ≤ 11

/-- A rising reference edge, judged by the timebase passed since the edge before (R110). Once the timebase is held at its top
value (R109) that interval reads too short: DESIGN CHOICE, log 40. -/
def State.referenceEdge (s : State) : State :=
  let now := s.time.timebase
  let s' := { s with time := { s.time with lastEdge := some now } }
  match s.time.lastEdge with
  | none => s'
  | some e =>
    if goodInterval (now - e) then
      if s.time.present then s' else s'.setTime s'.time.referenceGood
    else if s.time.present then s'.loseReference else s'

/-- Twelve ticks have passed after an edge with no further edge before the twelfth (R110), by the timebase, which stands still
at its top value (R109): DESIGN CHOICE, log 40. -/
def State.timeoutDue (s : State) : Bool :=
  s.time.present && s.time.lastEdge.any fun e => e + 12 ≤ s.time.timebase

/-- The lock-up count has reached 2^20 (R111). -/
def State.lockUpDue (s : State) : Bool := s.time.refState = .acquiring && s.time.lockUp ≥ Config.lockUpTicks

/-! ### Epochs -/

/-- The timebase has reached the time of the next epoch (R114; log 40 at the timebase's top value). -/
def State.epochDue (s : State) : Bool := s.time.nextEpoch ≤ s.time.timebase

/-- A head's time items at an epoch: its stored phase, its effective phase, and its expiry (R113, R114). -/
def HeadTime.epoch (h : HeadTime) (phase period index time : Nat) : HeadTime :=
  { h with phase := phase, effPhase := phase % period, expiry := some ⟨index, time + phase % period⟩ }

/-- An epoch, as one change (R114). -/
def State.beginEpoch (s : State) : State :=
  let t := s.time
  let period := (t.pendingSync.map SyncConfig.period).getD t.period
  let index := indexAfter t.syncIndex
  let at_ := t.nextEpoch
  let step (n : Head) : HeadTime :=
    let h := s.headTime.get n
    h.epoch ((t.pendingSync.map fun c => c.phases.get n).getD h.phase) period index at_
  { s with
    time := { t with period := period, pendingSync := none, syncIndex := index, nextEpoch := at_ + period }
    headTime := ⟨step .h0, step .h1, step .h2, step .h3⟩ }

/-! ### Sync expiries -/

/-- The expiry a head has due, if the timebase has reached it (R115). -/
def State.expiryDue (s : State) (n : Head) : Option DueExpiry :=
  (s.headTime.get n).expiry.filter fun e => e.time ≤ s.time.timebase

/-- A history with an entry added and, of five, the oldest removed (R117). -/
def pushHistory (h : List HistoryEntry) (e : HistoryEntry) : List HistoryEntry :=
  (h ++ [e]).drop ((h ++ [e]).length - Config.historyPlaces)

/-- A pending trigger runs out at its head's next expiry (R121). -/
def HeadTime.triggerRunsOut (h : HeadTime) : Bool := h.trigger.any fun r => r.periodsLeft ≤ 1

/-- A trigger record counted down at an expiry; at 0 it is IDLE (R121). -/
def countTrigger : Option TriggerRecord → Option TriggerRecord
  | some r => if r.periodsLeft ≤ 1 then none else some { r with periodsLeft := r.periodsLeft - 1 }
  | none => none

/-- The time base's part of an expiry: history, pulse and trigger count (R115, R116, R117, R121). -/
def HeadTime.expire (h : HeadTime) (e : DueExpiry) (period : Nat) : HeadTime :=
  { h with
    expiry := none
    history := pushHistory h.history ⟨e.index, e.time, period⟩
    pulseEnd := some (e.time + Config.pulseTicks)
    trigger := countTrigger h.trigger }

/-- The TRIGGER_EXPIRED event of an expiry at which the trigger runs out (R121). -/
def State.expireTrigger (s : State) (n : Head) (h : HeadTime) : State :=
  match h.trigger with
  | some r => if r.periodsLeft ≤ 1 then s.placeEvent (some n) (.triggerExpired r.edgeIndex r.edgeTime) else s
  | none => s

/-- Head n's sync expiry as a whole: the time base's change, then the tracking unit's work (R115). -/
def State.takeExpiry (s : State) (n : Head) (e : DueExpiry) : State :=
  let h := s.headTime.get n
  ((s.setHeadTime n (h.expire e s.time.period)).expireTrigger n h).trackExpiry n e.index

/-! ### Sample timestamps -/

/-- The timestamp of a sample by its index: that of its expiry, or the notional one before the oldest entry (R117). The
notional one is the exact difference, below 0 where the period is longer than the entry's time (DESIGN CHOICE, log 36). A
history of no entry accepts no sample (R32), and the 0 given there is read by nothing. -/
def timestampOf (history : List HistoryEntry) (index : Nat) : Int :=
  match history.find? fun e => e.index = index with
  | some e => e.time
  | none =>
    match history with
    | e :: _ => (e.time : Int) - e.period
    | [] => 0

/-! ### Trigger lines -/

/-- An edge on a trigger line is taken (R119). -/
def State.edgeTaken (s : State) (n : Head) : Bool :=
  (s.service = .active || s.service = .hold) && (s.ctx.get n).state ≠ .disabled

/-- A taken edge: it makes an IDLE record PENDING, and on a PENDING one raises TRIGGER_OVERRUN (R119). -/
def State.takeEdge (s : State) (n : Head) : State :=
  let h := s.headTime.get n
  match h.trigger with
  | none => s.setHeadTime n { h with trigger := some ⟨s.time.timebase, s.time.syncIndex, h.window⟩ }
  | some _ => s.raise (some n) .triggerOverrun s.time.syncIndex

/-- A head's trigger record becomes IDLE, with no event (R91, R118, R120). -/
def State.idleTrigger (s : State) (n : Head) : State :=
  s.setHeadTime n { s.headTime.get n with trigger := none }

/-- The pulse on a head's sync line has ended (R116), by the timebase, which stands still at its top value (R109): DESIGN
CHOICE, log 40. -/
def State.pulseOver (s : State) (n : Head) : Bool :=
  (s.headTime.get n).pulseEnd.any fun t => t ≤ s.time.timebase

end Sys2Proof.Machine
end

