-- ==== Sys2Proof/Machine/TableMemory.lean ====
section
/-! DEFINITION. Table memory as one canonical list of (address, byte) pairs, and the layout of buckets and slots in it (R59,
R157). A byte nothing has written since the latest hard reset is not listed and reads as a free value (R125; log 5). -/

namespace Sys2Proof.Machine
open Sys2Proof

/-! ### Bytes -/

/-- What table memory lists at an address: the byte written there, or none. -/
def memLookup : List Host.Cell → Nat → Option Byte
  | [], _ => none
  | (k, b) :: rest, a => if a = k then some b else if a < k then none else memLookup rest a

/-- One byte written, in its place. -/
def memSet : List Host.Cell → Nat → Byte → List Host.Cell
  | [], a, b => [(a, b)]
  | (k, c) :: rest, a, b =>
    if a < k then (a, b) :: (k, c) :: rest
    else if a = k then (a, b) :: rest
    else (k, c) :: memSet rest a b

/-- Bytes written from an address on. -/
def memWrite : List Host.Cell → Nat → List Byte → List Host.Cell
  | m, _, [] => m
  | m, a, b :: bs => memWrite (memSet m a b) (a + 1) bs

/-- The canonical form: addresses strictly rising. Every listed byte is a written one, so no entry equals what an unlisted
address reads as. -/
def Memory.wf : List Host.Cell → Bool
  | [] => true
  | [_] => true
  | (a, _) :: (k, c) :: rest => a < k && Memory.wf ((k, c) :: rest)

/-- One byte of table memory as an access reads it (R125). -/
def State.readByte (s : State) (a : Nat) : Byte :=
  (memLookup s.cells a).getD (Config.unspecifiedByte s.resetCount a)

/-- Bytes of table memory from an address on. -/
def State.readBytes (s : State) (a len : Nat) : List Byte := (List.range len).map fun i => s.readByte (a + i)

/-- Bytes written to table memory. -/
def State.writeBytes (s : State) (a : Nat) (bs : List Byte) : State := { s with cells := memWrite s.cells a bs }

/-- A range lies in table memory (R57, R138). -/
def inMemory (a len : Nat) : Bool := a + len ≤ Config.memorySize

/-- Two byte ranges overlap. -/
def overlap (a n b m : Nat) : Bool := a < b + m && b < a + n

/-! ### Buckets and slots (R157) -/

/-- Where a slot stands in its bucket (R157). -/
def slotOffset : Slot → Nat
  | .a => 0
  | .b => 30

/-- The byte address of a slot (R157). -/
def slotAddress (base bucket : Nat) (sl : Slot) : Nat := bucketAddress base bucket + slotOffset sl

/-- The point state of a slot's marks (R60). -/
def pointStateOf (enabled captured : Bool) : PointState :=
  if !enabled then .disabled else if captured then .captured else .open

/-- A settle count as it is read: 0 as 1, above 12 as 12 (R60). -/
def settleCountOf (v : Nat) : Nat := clampNat 1 12 v

/-- The valid mark of a slot's 30 bytes (R157). -/
def slotValid (bs : List Byte) : Bool := bitAt 0 (natAt 0 1 bs)

/-- The cell key of a slot (R157). -/
def slotKey (bs : List Byte) : CellKey := ⟨intAt 2 2 bs, intAt 4 2 bs, intAt 6 2 bs⟩

/-- The point of a slot, as a walk collects it (R60, R61, R157). -/
def slotPoint (bucket : Nat) (sl : Slot) (bs : List Byte) : Point where
  bucket := bucket
  slot := sl
  id := natAt 8 2 bs
  nominal := ⟨intAt 10 4 bs, intAt 14 4 bs, intAt 18 4 bs⟩
  tolerance := natAt 22 2 bs
  settle := settleCountOf (natAt 1 1 bs)
  mode := if bitAt 3 (natAt 0 1 bs) then .triggered else .auto
  state := pointStateOf (bitAt 1 (natAt 0 1 bs)) (bitAt 2 (natAt 0 1 bs))
  capHead := natAt 24 1 bs
  capNumber := natAt 25 4 bs

/-- The next-bucket index of a bucket's 64 bytes (R59, R157). -/
def bucketNext (bs : List Byte) : Nat := natAt 60 4 bs

/-- A slot's status byte with its enabled and captured marks replaced and its other bits kept (R157). -/
def statusWith (old : Nat) (enabled captured : Bool) : Nat :=
  (old / 8) * 8 + (old % 2) + (if enabled then 2 else 0) + (if captured then 4 else 0)

/-- A slot write: the status byte's two marks and bytes 24 to 28, in one change (R135, R157). -/
def State.writeSlot (s : State) (addr : Nat) (enabled captured : Bool) (capHead capNumber : Nat) : State :=
  let status := statusWith (s.readByte addr).toNat enabled captured
  (s.writeBytes addr [byteOf status]).writeBytes (addr + 24) (byteOf capHead :: natLE 4 capNumber)

/-- The address of a spill position (R103). -/
def spillAddress (base pos : Nat) : Nat := base + pos * Config.bucketBytes

end Sys2Proof.Machine
end

