-- ==== Sys2Proof/Machine/Controller.lean ====
section
/-! DEFINITION. The table memory controller's shared operations (Chapter 6): banks and rows, durations, the order of the
requesters, the grant, and refresh. -/

namespace Sys2Proof.Machine
open Sys2Proof

/-! ### Banks and rows (R128) -/

/-- The bank of a byte address. -/
def bankOf (g a : Nat) : Nat := (a / g) % 4

/-- The address within the bank. -/
def bankAddress (g a : Nat) : Nat := a / (4 * g) * g + a % g

/-- The row of a byte address in its bank. -/
def rowOf (g a : Nat) : Nat := bankAddress g a / 2048

/-- The bank-rows a range touches: one, or two where it crosses a boundary (R128). R129 serves two of them one after the other
and does not say which first; they are listed, and so served, in address order: DESIGN CHOICE, log 42. -/
def bankRows (g a len : Nat) : List (Nat × Nat) :=
  let p := (bankOf g a, rowOf g a)
  let q := (bankOf g (a + len - 1), rowOf g (a + len - 1))
  if p = q then [p] else [p, q]

/-! ### Durations (R129) -/

/-- The duration of one read or write against the open row of its bank. -/
def rowDuration (t : Timing) (opened : Option Nat) (row : Nat) : Nat :=
  match opened with
  | none => t.activate + t.access
  | some r => if r = row then t.access else t.precharge + t.activate + t.access

/-- Bank-rows served one after the other, in the list's order (R129, log 42): the durations added and the rows left open. -/
def serveRows (t : Timing) : List (Nat × Nat) → List (Option Nat) → Nat × List (Option Nat)
  | [], rows => (0, rows)
  | (b, r) :: rest, rows =>
    let next := serveRows t rest (rows.set b (some r))
    (rowDuration t (rows.getD b none) r + next.1, next.2)

/-- The bytes an access touches and whether it reads and then writes them (R135). A refresh touches none. -/
def Access.range (l : Lookup) (sp : Spill) : Access → Option (Nat × Nat × Bool)
  | .walk r => some (r.addr, Config.bucketBytes, false)
  | .writeback b sl => some (slotAddress l.base b sl, Config.slotBytes, true)
  | .spill (.write p) => some (spillAddress sp.base p, Config.bucketBytes, false)
  | .spill (.read p) => some (spillAddress sp.base p, Config.bucketBytes, false)
  | .mgmt (.read a n) => some (a, n, false)
  | .mgmt (.write a bs) => some (a, bs.length, false)
  | .mgmt (.point w) => some (slotAddress l.base w.bucket w.slot, Config.slotBytes, true)
  | .refresh => none

/-- The duration of an access and the rows it leaves open (R129). -/
def accessCost (m : MemCtl) (l : Lookup) (sp : Spill) (a : Access) : Nat × List (Option Nat) :=
  match a.range l sp with
  | none => (m.timing.refresh, m.openRows)
  | some (addr, len, modify) =>
    let c := serveRows m.timing (bankRows m.interleave.bytes addr len) m.openRows
    (c.1 + (if modify then m.timing.access else 0), c.2)

/-! ### The grant (R132 to R134) -/

/-- The four requesters (R132). -/
inductive Requester where
  | walk | writeback | spill | mgmt
  deriving DecidableEq, Repr

/-- The requester order of the three exchange options, highest first (R134). -/
def requesterOrder (x1 x2 x3 : Bool) : List Requester :=
  match x1, x2, x3 with
  | false, false, false => [.walk, .writeback, .spill, .mgmt]
  | true, false, false => [.mgmt, .walk, .writeback, .spill]
  | false, true, false => [.walk, .spill, .writeback, .mgmt]
  | false, false, true => [.writeback, .walk, .spill, .mgmt]
  | true, true, false => [.mgmt, .walk, .spill, .writeback]
  | true, false, true => [.mgmt, .writeback, .walk, .spill]
  | false, true, true => [.spill, .writeback, .walk, .mgmt]
  | true, true, true => [.mgmt, .spill, .writeback, .walk]

/-- The oldest WAITING entry of the write-back queue (R99, R132). -/
def oldestWaiting (q : List WbEntry) : Option WbEntry := q.find? fun e => e.phase = .waiting

/-- A requester's first request (R132). -/
def State.firstRequest (s : State) : Requester → Option Access
  | .walk => s.mem.walkQueue.head?.map Access.walk
  | .writeback => (oldestWaiting s.capture.writeback).map fun e => .writeback e.bucket e.slot
  | .spill => s.mem.spillQueue.head?.map Access.spill
  | .mgmt => s.mem.mgmt.map Access.mgmt

/-- What the controller grants at a grant point, if anything (R133): a forced refresh, the highest-ranked request, an owed
refresh. -/
def State.granted (s : State) : Option Access :=
  if s.mem.owed ≥ Config.owedLimit then some .refresh
  else match (requesterOrder s.mem.x1 s.mem.x2 s.mem.x3).findSome? s.firstRequest with
    | some a => some a
    | none => if s.mem.owed > 0 then some .refresh else none

/-- A grant point: the memory is READY and no access is in progress (R133). -/
def State.grantPoint (s : State) : Bool := s.mem.state = .ready && s.mem.running.isNone

/-- A write-back entry becomes WRITING (R99). -/
def setWriting (b : Nat) (sl : Slot) (q : List WbEntry) : List WbEntry :=
  q.map fun e => if e.bucket = b && e.slot = sl && e.phase = .waiting then { e with phase := .writing } else e

/-- A granted request leaves its requester's waiting requests; a write-back entry becomes WRITING; a refresh is owed no
more (R99, R132, R137). -/
def State.removeRequest (s : State) : Access → State
  | .walk _ => { s with mem := { s.mem with walkQueue := s.mem.walkQueue.tail } }
  | .writeback b sl => { s with capture := { s.capture with writeback := setWriting b sl s.capture.writeback } }
  | .spill _ => { s with mem := { s.mem with spillQueue := s.mem.spillQueue.tail } }
  | .mgmt _ => { s with mem := { s.mem with mgmt := none } }
  | .refresh => { s with mem := { s.mem with owed := s.mem.owed - 1 } }

/-- An access granted: it runs whole, for its duration (R129, R133). -/
def State.grant (s : State) (a : Access) : State :=
  let cost := accessCost s.mem s.lookup s.spill a
  let s := s.removeRequest a
  { s with mem := { s.mem with running := some ⟨a, s.time.timebase, cost.1⟩, openRows := cost.2 } }

/-- The access in progress has completed. -/
def State.endAccess (s : State) : State := { s with mem := { s.mem with running := none } }

/-- The access in progress. -/
def State.access (s : State) : Option Access := s.mem.running.map Running.access

/-- A completion that touches table memory: an access outside it stops the machine (log 18). -/
def withinMemory (addr len : Nat) (s : State) : Out :=
  if inMemory addr len then .next s else .fault (.outsideTableMemory addr len)

/-! ### Requests -/

/-- A walk requests a bucket (R67). -/
def State.requestBucket (s : State) (c : Charge) (bucket : Nat) : State :=
  { s with mem := { s.mem with
      walkQueue := s.mem.walkQueue ++ [⟨c, bucket, bucketAddress s.lookup.base bucket⟩] } }

/-- The spill ring makes a request (R106, R107). -/
def State.requestSpill (s : State) (r : SpillRequest) : State :=
  { s with mem := { s.mem with spillQueue := s.mem.spillQueue ++ [r] } }

/-- A management access is made (R132). -/
def State.requestMgmt (s : State) (r : MgmtRequest) : State := { s with mem := { s.mem with mgmt := some r } }

/-! ### Refresh (R137) -/

/-- No bank has an open row (R128). -/
def closedRows : List (Option Nat) := [none, none, none, none]

/-- Ticks of the refresh interval (R130). -/
def MemCtl.intervalTicks (m : MemCtl) : Nat := m.refreshInterval * Config.ticksPerUs

/-- The next refresh expiry has been reached (R137). -/
def State.refreshDue (s : State) : Bool :=
  s.mem.state = .ready && s.mem.nextRefresh.any fun t => t ≤ s.time.timebase

/-- The controller after a refresh expiry: one more owed, at most 8, and the next expiry set (R125, R137; log 17). -/
def MemCtl.refreshExpiry (m : MemCtl) : MemCtl :=
  { m with
    owed := min Config.owedLimit (m.owed + 1)
    nextRefresh := m.nextRefresh.map fun t => t + m.intervalTicks }

/-- The controller as READY is reached at a time, with refreshes owed (R130, R141). -/
def MemCtl.becomeReady (m : MemCtl) (now owed : Nat) : MemCtl :=
  { m with
    state := .ready, initPhase := none, exitBegan := none, owed := owed
    nextRefresh := some (now + m.intervalTicks) }

end Sys2Proof.Machine
end

