-- ==== Sys2Proof/Machine/Cache.lean ====
section
/-! DEFINITION. The cell cache's shared operations (Chapter 3): finding, inserting and changing records, pins, write-back
forwarding, and walks up to their completion. Handing samples on is in Machine/Lookups.lean. -/

namespace Sys2Proof.Machine
open Sys2Proof

/-! ### Records -/

/-- The index of the valid record with a key. -/
def recordIndex (k : CellKey) (rs : List (Option CellRecord)) : Option Nat :=
  rs.findIdx? fun r => r.any fun r => r.key = k

/-- The record at an index. -/
def recordAt (rs : List (Option CellRecord)) (i : Nat) : Option CellRecord := rs.getD i none

/-- The valid record with a key (R63). -/
def Lookup.find (l : Lookup) (k : CellKey) : Option CellRecord :=
  (recordIndex k l.records).bind fun i => recordAt l.records i

/-- The records with those of one key changed. -/
def Lookup.mapKey (l : Lookup) (k : CellKey) (f : CellRecord → Option CellRecord) : Lookup :=
  { l with records := l.records.map fun r => r.bind fun r => if r.key = k then f r else some r }

/-- Every valid record's points of one bucket and slot changed (R82, R100). -/
def Lookup.mapPoints (l : Lookup) (b : Nat) (sl : Slot) (f : Point → Point) : Lookup :=
  { l with records := l.records.map fun r => r.map fun r =>
      { r with points := r.points.map fun p => if p.bucket = b && p.slot = sl then f p else p } }

/-- The invalid record with the lowest index (R71). -/
def freeRecord (rs : List (Option CellRecord)) : Option Nat := rs.findIdx? Option.isNone

/-- The victim: the first unpinned record at or after the victim pointer, wrapping (R72). -/
def victimOf (l : Lookup) : Option Nat :=
  ((List.range Config.cacheRecords).map fun i => (l.victim + i) % Config.cacheRecords).find? fun i =>
    (recordAt l.records i).any fun r => !r.pinned

/-- A record inserted into an invalid place, or in place of the victim, which moves the victim pointer (R71, R72). -/
def Lookup.insert (l : Lookup) (r : CellRecord) : Lookup :=
  match freeRecord l.records with
  | some i => { l with records := l.records.set i (some r) }
  | none =>
    match victimOf l with
    | some i => { l with records := l.records.set i (some r), victim := (i + 1) % Config.cacheRecords }
    | none => l

/-! ### Pins (R75) -/

/-- A valid record is pinned. -/
def recordPinned (r : Option CellRecord) : Bool := r.any CellRecord.pinned

/-- The pin count: pinned records, walks that carry a pin, keys on the re-walk list (R75). -/
def Lookup.pinCount (l : Lookup) : Nat :=
  l.records.countP recordPinned + l.walks.countP Walk.pin + l.rewalk.length

/-! ### Walks -/

/-- The walk in flight for a key; a discarded one does not count (R63, R73). -/
def Lookup.walkFor (l : Lookup) (k : CellKey) : Option Walk :=
  l.walks.find? fun w => w.key = k && !w.discarded

/-- A walk charge is free (R66). -/
def Lookup.chargeFree (l : Lookup) (c : Charge) : Bool := l.walks.all fun w => w.charge != c

/-- The walks with that of one charge changed. -/
def Lookup.mapWalk (l : Lookup) (c : Charge) (f : Walk → Walk) : Lookup :=
  { l with walks := l.walks.map fun w => if w.charge = c then f w else w }

/-- A walk ends and its charge becomes free (R71, R73). -/
def Lookup.endWalk (l : Lookup) (c : Charge) : Lookup := { l with walks := l.walks.filter fun w => w.charge != c }

/-- A walk is cancelled: no waiter has stayed and it carries no pin (R73). -/
def Walk.cancelled (w : Walk) : Bool := w.waiters.isEmpty && !w.pin

/-- A walk with what it has read dropped; an outstanding read's data will be dropped too (R74). -/
def Walk.restarted (w : Walk) : Walk :=
  { w with visited := [], matched := [], overflow := false, dropData := w.outstanding.isSome }

/-- A walk has read a bucket for which p holds, or has a read of one outstanding (R81, R82). -/
def Walk.touches (p : Nat → Bool) (w : Walk) : Bool := w.visited.any p || w.outstanding.any p

/-- The hashed bucket of a key (R24). -/
def Lookup.hashed (l : Lookup) (k : CellKey) : Nat := cellHash l.bucketCount k

/-- A walk is started for a key and the hashed bucket requested (R66, R67). -/
def State.startWalk (s : State) (c : Charge) (k : CellKey) (waiters : List Head) (pin : Bool) : State :=
  let b := s.lookup.hashed k
  let w : Walk := ⟨c, k, waiters, pin, [], [], false, some b, false, false⟩
  { s with lookup := { s.lookup with walks := s.lookup.walks ++ [w] } }.requestBucket c b

/-- A walk requests a bucket and its read is outstanding (R67). -/
def State.walkRequest (s : State) (c : Charge) (b : Nat) : State :=
  { s with lookup := s.lookup.mapWalk c fun w => { w with outstanding := some b, dropData := false } }.requestBucket c b

/-- The walk of a charge is restarted; with no read outstanding it requests the hashed bucket at once (R74). -/
def State.restartWalk (s : State) (w : Walk) : State :=
  let s' := { s with lookup := s.lookup.mapWalk w.charge Walk.restarted }
  if w.outstanding.isSome then s' else s'.walkRequest w.charge (s.lookup.hashed w.key)

/-- The walk of a charge ends at once with no read outstanding, and otherwise stays until its read completes (R73). -/
def State.dropWalk (s : State) (w : Walk) : State :=
  if w.outstanding.isSome then s else { s with lookup := s.lookup.endWalk w.charge }

/-- A walk's result is discarded (R58, R79, R80): it loses its pin and waiters and is not rejoined. -/
def State.discardWalk (s : State) (w : Walk) : State :=
  { s with lookup := s.lookup.mapWalk w.charge fun w => { w with pin := false, waiters := [], discarded := true } }.dropWalk w

/-- A purge reaches a walk: it loses its pin, and is restarted for its waiters or discarded (R79, R80). -/
def State.purgeWalk (s : State) (w : Walk) : State :=
  if w.discarded then s
  else if w.waiters.isEmpty then s.discardWalk w
  else { s with lookup := s.lookup.mapWalk w.charge fun w => { w with pin := false } }.restartWalk w

/-- A head's sample leaves the walk it waits on; the last waiter's leaving cancels an unpinned walk (R65, R73). -/
def State.leaveWalk (s : State) (n : Head) : State :=
  match s.lookup.walks.find? fun w => w.waiters.contains n with
  | none => s
  | some w =>
    let left := w.waiters.filter fun m => m != n
    let s' := { s with lookup := s.lookup.mapWalk w.charge fun w => { w with waiters := left } }
    if left.isEmpty && !w.pin then s'.dropWalk w else s'

/-! ### Reading buckets -/

/-- Write-back forwarding: a pending entry's marks, head and number in place of the slot's (R70). -/
def forwarded (q : List WbEntry) (p : Point) : Point :=
  match q.find? fun e => e.bucket = p.bucket && e.slot = p.slot with
  | some e => { p with state := pointStateOf e.enabled e.captured, capHead := e.capHead, capNumber := e.capNumber }
  | none => p

/-- One slot of a bucket examined: a new match is collected, a fifth sets the overflow mark (R67, R69, R70). -/
def Walk.examine (q : List WbEntry) (bucket : Nat) (sl : Slot) (bs : List Byte) (w : Walk) : Walk :=
  if !(slotValid bs && slotKey bs = w.key) then w
  else if w.matched.any fun p => p.bucket = bucket && p.slot = sl then w
  else if w.matched.length < Config.walkMatches then
    { w with matched := w.matched ++ [forwarded q (slotPoint bucket sl bs)] }
  else { w with overflow := true }

/-- A bucket's data taken by a walk: the bucket is visited and slot A, then slot B, is examined (R67). -/
def Walk.take (q : List WbEntry) (bucket : Nat) (bs : List Byte) (w : Walk) : Walk :=
  let w := { w with visited := w.visited ++ [bucket], outstanding := none }
  (w.examine q bucket .a (field 0 Config.slotBytes bs)).examine q bucket .b (field 30 Config.slotBytes bs)

/-- What the next-bucket index makes of a walk (R68). -/
inductive Link where
  /-- The chain ends. -/
  | done
  /-- A next-bucket index at or above the bucket count. -/
  | bad
  /-- A good link after the fourth bucket. -/
  | tooLong
  /-- The next bucket of the chain. -/
  | follow (bucket : Nat)
  deriving DecidableEq, Repr

/-- The next-bucket index judged (R59, R68). -/
def judgeLink (bucketCount read next : Nat) : Link :=
  if next = 0 then .done
  else if next ≥ bucketCount then .bad
  else if read < Config.walkBuckets then .follow next
  else .tooLong

/-- The record a completed walk inserts, with the insertion check of forwarding (R70, R71). -/
def Walk.toRecord (q : List WbEntry) (incomplete : Bool) (w : Walk) : CellRecord :=
  ⟨w.pin, w.key, incomplete, w.overflow, w.visited, w.matched.map (forwarded q)⟩

/-! ### The capture update (R83) -/

/-- The answer to a capture update (R83). -/
inductive UpdateAnswer where
  | applied | stale | notCached
  deriving DecidableEq, Repr

/-- The point of a bucket and slot in the valid record with a key. -/
def Lookup.findPoint (l : Lookup) (k : CellKey) (b : Nat) (sl : Slot) : Option Point :=
  (l.find k).bind fun r => r.points.find? fun p => p.bucket = b && p.slot = sl

/-- The lookup unit's answer to a capture update (R83). -/
def Lookup.updateAnswer (l : Lookup) (k : CellKey) (b : Nat) (sl : Slot) : UpdateAnswer :=
  match l.findPoint k b sl with
  | none => .notCached
  | some p => if p.state = .open then .applied else .stale

/-- The point set CAPTURED in the record with the key, with capture head and number (R83). -/
def Lookup.applyUpdate (l : Lookup) (k : CellKey) (b : Nat) (sl : Slot) (head number : Nat) : Lookup :=
  l.mapKey k fun r => some { r with points := r.points.map fun p =>
    if p.bucket = b && p.slot = sl then { p with state := .captured, capHead := head, capNumber := number } else p }

/-! ### Coherence with writes (R81, R82) -/

/-- A bucket of the table overlaps a byte range. -/
def bucketOverlaps (base addr len bucket : Nat) : Bool :=
  overlap addr len (bucketAddress base bucket) Config.bucketBytes

/-- A record lists a bucket for which p holds. -/
def CellRecord.touches (p : Nat → Bool) (r : CellRecord) : Bool := r.visited.any p

/-- Every walk that touches a bucket for which p holds is restarted; a discarded one has nothing to restart (R74, R81). -/
def State.restartTouching (s : State) (p : Nat → Bool) : State :=
  (s.lookup.walks.filter fun w => !w.discarded && w.touches p).foldl State.restartWalk s

/-- The keys of the pinned records that touch a bucket for which p holds, in record order. -/
def Lookup.pinnedTouching (l : Lookup) (p : Nat → Bool) : List CellKey :=
  l.records.filterMap fun r => (Option.filter (fun r => r.pinned && r.touches p) r).map CellRecord.key

/-- A completed MEM_WRITE reaches the lookup unit (R81). The order in which several keys join the re-walk list at once is
not stated (log 23). -/
def State.applyWrite (s : State) (addr len : Nat) : State :=
  let p := bucketOverlaps s.lookup.base addr len
  let keys := freelyOrdered (s.lookup.pinnedTouching p) s
  let s := keys.2
  let l := s.lookup
  { s with lookup := { l with
      records := l.records.map (Option.filter fun r => !r.touches p)
      rewalk := l.rewalk ++ keys.1 } }.restartTouching p

end Sys2Proof.Machine
end

