-- ==== Sys2Proof/Machine/Captures.lean ====
section
/-! DEFINITION. The capture unit's shared operations (Chapter 4): eligibility, the settle queue, the capture condition, the
tests of an attempt, a capture made or refused, and the hand-on of samples to the report unit. -/

namespace Sys2Proof.Machine
open Sys2Proof

/-! ### Settle queues -/

/-- An eligible sample worked into a settle queue (R88). -/
def SettleQueue.push (q : SettleQueue) (cand : Candidate) (gen index : Nat) (pos : Vec3) (inWin : Bool) : SettleQueue :=
  let keep : Bool := match q.candidate with
    | some c => c.bucket = cand.bucket && c.slot = cand.slot && q.poseGen = some gen &&
        q.entries.getLast?.any fun (e : SettleEntry) => index = indexAfter e.index
    | none => false
  if keep then
    let es : List SettleEntry := q.entries ++ [⟨index, pos, inWin⟩]
    { q with entries := es.drop (es.length - Config.settlePlaces) }
  else ⟨[⟨index, pos, inWin⟩], some cand, some gen⟩

/-- The newest k entries, oldest of them first (R90, R92). -/
def SettleQueue.newest (q : SettleQueue) (k : Nat) : List SettleEntry := q.entries.drop (q.entries.length - k)

/-- The newest entries that are in window without a break (R85). -/
def SettleQueue.run (q : SettleQueue) : Nat := (q.entries.reverse.takeWhile SettleEntry.inWindow).length

/-- Head n's settle queue is cleared (R86, R89). -/
def State.clearSettle (s : State) (n : Head) : State := s.setSettle n SettleQueue.empty

/-- All four settle queues are cleared (R89). -/
def State.clearAllSettle (s : State) : State := { s with settle := .all SettleQueue.empty }

/-! ### Eligibility and the capture condition -/

/-- The candidate of an eligible sample, or none where the sample is not eligible (R86, R87). -/
def State.eligible (s : State) (h : Handed) : Option (BlockPos × Point) :=
  match h.sample.block, h.result.recordOf with
  | some b, some r =>
    if h.sample.tracking = .locked && s.service = .active && !h.sample.flags.any && !r.incomplete then
      (nearestPoint b.pos r.points).map fun p => (b, p)
    else none
  | _, _ => none

/-- The capture condition but for the trigger, which is read at the attempt (R90, R91). -/
def settled (q : SettleQueue) (p : Point) : Bool :=
  p.state = .open && q.entries.length ≥ p.settle && (q.newest p.settle).all SettleEntry.inWindow

/-- Head n has an attempt that waits (R92). -/
def State.attemptWaits (s : State) (n : Head) : Bool := s.capture.waiting.any fun a => a.head = n

/-- The settle work of a sample that reaches the capture unit: not eligible, it clears the queue and is handed on; eligible,
it is worked in, and it is handed on unless the condition holds and an attempt waits (R86 to R92, R98). -/
def State.settleWork (s : State) (n : Head) (h : Handed) : State :=
  match s.eligible h with
  | none => (s.clearSettle n).reportSample n h
  | some (b, p) =>
    let q := (s.settle.get n).push ⟨p.bucket, p.slot, p.id⟩ b.gen h.sample.index b.pos (inWindow b.pos p)
    let s := s.setSettle n q
    if settled q p then { s with capture := { s.capture with waiting := s.capture.waiting ++ [⟨n, h, p⟩] } }
    else s.reportSample n h

/-- A sample reaches the capture unit: behind an attempt of its head that waits, it waits too (R92). -/
def State.toCapture (s : State) (n : Head) (h : Handed) : State :=
  if s.attemptWaits n then s.setBehind n (s.behind.get n ++ [h]) else s.settleWork n h

/-- The samples that waited behind an attempt that has ended follow in their order (R92). -/
def State.followBehind (s : State) (n : Head) : State :=
  (s.behind.get n).foldl (fun s h => s.toCapture n h) (s.setBehind n [])

/-- The sample of an attempt that has ended is handed on, and those behind it follow (R92, R98). -/
def State.endAttempt (s : State) (a : Attempt) : State := (s.reportSample a.head a.handed).followBehind a.head

/-- The waiting attempts for which p holds are dropped: no test, no number, no fault; their samples are handed on (R92). R98
orders the samples of each head only; among heads they go in the order in which the attempts waited, each followed by the
samples behind it (DESIGN CHOICE, log 37). -/
def State.dropAttempts (s : State) (p : Attempt → Bool) : State :=
  (s.capture.waiting.filter p).foldl State.endAttempt
    { s with capture := { s.capture with waiting := s.capture.waiting.filter fun a => !p a } }

/-! ### The tests of an attempt (R93) -/

/-- A management write over a slot is in hand and not complete: a POINT_STATE that did not merge, or a MEM_WRITE whose range
overlaps the slot (test 2 of R93). -/
def State.writeInHand (s : State) (b : Nat) (sl : Slot) : Bool :=
  match s.mgmt.inHand.map InHand.work with
  | some (.pointBlocked b' sl' _) => b = b' && sl = sl'
  | some (.pointWrite b' sl') => b = b' && sl = sl'
  | some (.memWriteBlocked a bs) => overlap a bs.length (slotAddress s.lookup.base b sl) Config.slotBytes
  | some (.memWrite a bs) => overlap a bs.length (slotAddress s.lookup.base b sl) Config.slotBytes
  | _ => false

/-- The write-back queue holds an entry for a slot in a phase. -/
def wbHas (q : List WbEntry) (b : Nat) (sl : Slot) (ph : WbPhase) : Bool :=
  q.any fun e => e.bucket = b && e.slot = sl && e.phase = ph

/-- Where a capture's record has room reserved (R93). -/
inductive Room where
  | queue | ring
  deriving DecidableEq, Repr

/-- How the tests end (R93). -/
inductive Verdict where
  /-- Test 1 or 6 failed; full says that the ring holds 512 records. -/
  | refused (full : Bool)
  | deferred
  | pass (room : Room)
  deriving DecidableEq, Repr

/-- The tests of R93 in their order. -/
def State.captureTests (s : State) (b : Nat) (sl : Slot) : Verdict :=
  let q := s.capture.writeback
  if s.capture.nextNumber.isNone then .refused false
  else if s.writeInHand b sl then .deferred
  else if wbHas q b sl .writing then .deferred
  else if q.length ≥ Config.writebackPlaces && !wbHas q b sl .waiting then .deferred
  else if s.spill.count = 0 && s.report.placeFree then .pass .queue
  else if s.spill.count ≥ Config.ringPositions then .refused true
  else if !s.spill.configured then .refused false
  else if s.spill.writes.length ≥ Config.spillWriteLimit then .deferred
  else .pass .ring

/-- The trigger part of the condition, read at the attempt's tests (R90, R91). -/
def State.triggerMet (s : State) (n : Head) (p : Point) : Bool :=
  p.mode = .auto || (s.headTime.get n).trigger.isSome

/-! ### A capture made (R96, R97) -/

/-- The next capture number after a number has been taken (R95, R96). -/
def numberAfter (k : Nat) : Option Nat := if k ≥ 4294967295 then none else some (k + 1)

/-- The captured state of a slot joins the write-back queue, or a WAITING entry takes it (R96, R99). -/
def queueCaptured (q : List WbEntry) (b : Nat) (sl : Slot) (head number : Nat) : List WbEntry :=
  if wbHas q b sl .waiting then
    q.map fun e => if e.bucket = b && e.slot = sl && e.phase = .waiting then
      { e with enabled := true, captured := true, capHead := head, capNumber := number } else e
  else q ++ [⟨b, sl, true, true, head, number, .waiting⟩]

/-- The timestamp field of a Capture payload, unsigned in 8 bytes (R155); of a timestamp below 0 a free value (log 36). -/
def timestampField (t : Int) : List Byte :=
  if t < 0 then natLE 8 (Config.unstatedTimestamp t).toNat else natLE 8 t.toNat

/-- The capture record as the 42 bytes of a Capture payload (R97, R155). -/
def capturePayload (number : Nat) (n : Head) (p : Point) (m : MeasuredSample) (quality : TimeQuality)
    (es : List SettleEntry) (gen : Nat) : List Byte :=
  let mean := meanPosition (es.map SettleEntry.pos)
  natLE 4 number ++ [byteOf (headNumber n), byteOf p.slot.code] ++ natLE 2 p.id ++ natLE 2 p.bucket ++
    natLE 2 m.index ++ timestampField m.timestamp ++ [byteOf quality.code, byteOf p.settle] ++ vecLE 4 mean ++
    vecLE 2 (clampDeviation (deviation mean p.nominal)) ++ natLE 2 gen

/-- A capture record placed where room was reserved: in the report queue, or at the ring's write position with its spill
write requested (R105, R106). -/
def State.placeRecord (s : State) (room : Room) (payload : List Byte) : State :=
  match room with
  | .queue => s.enqueueReserved ⟨.capture, payload⟩
  | .ring =>
    let sp := s.spill
    let sp' : Spill := { sp with
      writePos := (sp.writePos + 1) % Config.ringPositions
      count := sp.count + 1
      writes := sp.writes ++ [⟨sp.writePos, payload⟩] }
    { s with spill := sp' }.requestSpill (.write sp.writePos)

/-- The key of the record the attempt's sample carried (R93). -/
def attemptKey (a : Attempt) : CellKey :=
  match a.handed.result.recordOf with
  | some r => r.key
  | none => ⟨0, 0, 0⟩

/-- A capture is made, as one change (R96). -/
def State.makeCapture (s : State) (a : Attempt) (room : Room) (number : Nat) (q : SettleQueue) : State :=
  let n := a.head
  let payload := capturePayload number n a.point a.handed.sample s.time.quality (q.newest a.point.settle)
    (q.poseGen.getD 0)
  let s := { s with
    lookup := s.lookup.applyUpdate (attemptKey a) a.point.bucket a.point.slot (headNumber n) number
    capture := { s.capture with
      nextNumber := numberAfter number
      writeback := queueCaptured s.capture.writeback a.point.bucket a.point.slot (headNumber n) number } }
  ((s.clearSettle n).idleTrigger n).placeRecord room payload

/-- Room is reserved where the tests found it (tests 5 and 8 of R93). -/
def State.reserveRoom (s : State) : Room → State
  | .queue => s.reserve
  | .ring => s

/-- A reservation is released (R93, R166). -/
def State.releaseRoom (s : State) : Room → State
  | .queue => s.release
  | .ring => s

/-- A capture refused: the queue cleared and CAPTURE_REFUSED raised, with SPILL_FULL for a full ring (R95). -/
def State.refuseCapture (s : State) (a : Attempt) (full : Bool) : State :=
  let s := (s.clearSettle a.head).raise (some a.head) .captureRefused a.handed.sample.index
  if full then s.raise none .spillFull (headNumber a.head) else s

/-- The running attempt after its tests have passed: the capture update and what its answer decides (R93). -/
def State.updateAndMake (s : State) (a : Attempt) (room : Room) : State :=
  let q := s.settle.get a.head
  let s := s.reserveRoom room
  match s.capture.nextNumber, s.lookup.updateAnswer (attemptKey a) a.point.bucket a.point.slot with
  | some k, .applied => s.makeCapture a room k q
  | _, .stale => (s.releaseRoom room).clearSettle a.head
  | _, _ => s.releaseRoom room

/-- The attempt's own work, from its first test to its end (R91 to R96). -/
def State.runAttempt (s : State) (a : Attempt) : State :=
  if !s.triggerMet a.head a.point then s
  else match s.captureTests a.point.bucket a.point.slot with
    | .refused full => s.refuseCapture a full
    | .deferred => s
    | .pass room => s.updateAndMake a room

/-- The attempt in progress set or cleared (R92). -/
def State.setAttempt (s : State) (h : Option Head) : State := { s with capture := { s.capture with attempt := h } }

/-- One capture attempt: it runs with its head as the attempt in progress, and its sample is handed on when it has ended
(R92, R98). -/
def State.attempt (s : State) (a : Attempt) (rest : List Attempt) : State :=
  let s := { s with capture := { s.capture with waiting := rest, attempt := some a.head } }
  ((s.runAttempt a).setAttempt none).endAttempt a

end Sys2Proof.Machine
end

