-- ==== Sys2Proof/Machine/Lookups.lean ====
section
/-! DEFINITION. The point lookup unit's handling of samples (R63 to R66, R71): looking a sample up, joining and starting walks,
finishing samples late, and completing a walk. -/

namespace Sys2Proof.Machine
open Sys2Proof

/-- A sample is handed on to the capture unit with its result; an overflowed record raises CELL_OVERFLOW (R64, R69). -/
def State.handOn (s : State) (n : Head) (m : MeasuredSample) (r : LookupResult) : State :=
  let s := if r.recordOf.any CellRecord.overflow then s.raise (some n) .cellOverflow m.index else s
  s.toCapture n ⟨m, r⟩

/-- Head n's waiting sample is finished as "lookup late" (R65). -/
def State.finishLate (s : State) (n : Head) : State :=
  match s.waiting.get n with
  | some w => (s.setWaiting n none).handOn n w.sample .late
  | none => s

/-- The waiting samples for which p holds are finished as "lookup late", heads in an order left open (R58, R186, R188;
log 8). -/
def State.finishAllLate (s : State) (p : WaitingSample → Bool) : State :=
  let o := freelyOrdered (allHeads.filter fun n => (s.waiting.get n).any p) s
  o.1.foldl State.finishLate o.2

/-- A missing sample joins a walk for its key (R63). -/
def State.joinWalk (s : State) (n : Head) (m : MeasuredSample) (w : Walk) : State :=
  { s with lookup := s.lookup.mapWalk w.charge fun w => { w with waiters := w.waiters ++ [n] } }.setWaiting n
    (some ⟨m, false⟩)

/-- A missing sample starts a walk charged to its head, which takes the pin of a key on the re-walk list (R66, R78). -/
def State.startHeadWalk (s : State) (n : Head) (m : MeasuredSample) (k : CellKey) : State :=
  let listed := s.lookup.rewalk.contains k
  let s := { s with lookup := { s.lookup with rewalk := s.lookup.rewalk.filter fun k' => k' != k } }
  (s.startWalk (.head n) k [n] listed).setWaiting n (some ⟨m, false⟩)

/-- A miss: the sample joins the walk for its key, starts one, or waits with a pending start (R63, R66). -/
def State.missed (s : State) (n : Head) (m : MeasuredSample) (k : CellKey) : State :=
  match s.lookup.walkFor k with
  | some w => s.joinWalk n m w
  | none =>
    if s.lookup.chargeFree (.head n) then s.startHeadWalk n m k
    else s.setWaiting n (some ⟨m, true⟩)

/-- A sample of a head that has no waiting sample is looked up (R63). -/
def State.lookupFresh (s : State) (n : Head) (m : MeasuredSample) : State :=
  match m.block with
  | none => s.handOn n m .noPosition
  | some b =>
    if !s.lookup.configured then s.handOn n m .noTable
    else
      let k := cellKeyOf s.lookup.shift b.pos
      match s.lookup.find k with
      | some r => s.handOn n m (.record r)
      | none => s.missed n m k

/-- The walk a head's sample waits on. -/
def Lookup.walkOf (l : Lookup) (n : Head) : Option Walk := l.walks.find? fun w => w.waiters.contains n

/-- The new sample's cell key is that of the walk the head's waiting sample waits on (R65). -/
def State.sameWalk (s : State) (n : Head) (m : MeasuredSample) : Bool :=
  s.lookup.configured &&
    match m.block, s.lookup.walkOf n with
    | some b, some w => w.key = cellKeyOf s.lookup.shift b.pos
    | _, _ => false

/-- A measured sample reaches the point lookup unit: it first finishes its head's waiting sample late, taking its place on
the walk where the key is the same (R63, R65). -/
def State.lookupSample (s : State) (n : Head) (m : MeasuredSample) : State :=
  match s.waiting.get n with
  | none => s.lookupFresh n m
  | some w =>
    if w.pendingStart then (s.finishLate n).lookupFresh n m
    else if s.sameWalk n m then (s.finishLate n).setWaiting n (some ⟨m, false⟩)
    else ((s.leaveWalk n).finishLate n).lookupFresh n m

/-- Head n's sample that waited on a completed walk is handed on with the record (R71). -/
def State.handWaiting (s : State) (r : CellRecord) (n : Head) : State :=
  match s.waiting.get n with
  | some w => (s.setWaiting n none).handOn n w.sample (.record r)
  | none => s

/-- The data of a PIN_CELL answer: record index, incomplete and overflow marks (R76, R177). -/
def pinData (i : Nat) (r : CellRecord) : List Byte := [byteOf i] ++ markByte r.incomplete ++ markByte r.overflow

/-- A PIN_CELL that waits for a record of this key is answered (R71, R76). -/
def State.answerPin (s : State) (r : CellRecord) : State :=
  match s.mgmt.inHand.map InHand.work with
  | some (.pinForWalk k) =>
    if k = r.key then s.answerInHand .ok (pinData ((recordIndex r.key s.lookup.records).getD 0) r) else s
  | _ => s

/-- A walk completes: its record is inserted, its waiting samples are handed on, heads in an order left open, a waiting
PIN_CELL is answered, and its charge becomes free (R71; log 8). -/
def State.completeWalk (s : State) (w : Walk) (incomplete : Bool) : State :=
  let r := w.toRecord s.capture.writeback incomplete
  let o := freelyOrdered w.waiters { s with lookup := (s.lookup.endWalk w.charge).insert r }
  (o.1.foldl (fun s n => s.handWaiting r n) o.2).answerPin r

/-- A walk that has taken a bucket's data goes on as the next-bucket index says (R68). -/
def State.followLink (s : State) (w : Walk) (bucket next : Nat) : State :=
  match judgeLink s.lookup.bucketCount w.visited.length next with
  | .done => s.completeWalk w false
  | .bad => (s.completeWalk w true).raise none .badLink bucket
  | .tooLong => (s.completeWalk w true).raise none .chainLimit bucket
  | .follow b => { s with lookup := s.lookup.mapWalk w.charge fun _ => w }.walkRequest w.charge b

/-- A walk's bucket read has completed: its data is dropped with a discarded or cancelled walk, dropped before a restart,
or taken (R67, R73, R74). -/
def State.walkData (s : State) (r : WalkRead) (bs : List Byte) : State :=
  match s.lookup.walks.find? fun w => w.charge = r.charge with
  | none => s
  | some w =>
    if w.discarded || w.cancelled then { s with lookup := s.lookup.endWalk w.charge }
    else if w.dropData then s.walkRequest w.charge (s.lookup.hashed w.key)
    else
      let w' := w.take s.capture.writeback r.bucket bs
      s.followLink w' r.bucket (bucketNext bs)

/-- A walk may start from the re-walk list or a pending start (R78, R84, R188). -/
def State.walksStart (s : State) : Bool := (s.service = .active || s.service = .hold) && !s.restartMark

end Sys2Proof.Machine
end

