-- ==== Sys2Proof/Machine/Operands.lean ====
section
/-! DEFINITION. Operand forms: the fields of a Sample payload (R153), and the parameters of every request kind with the payload
lengths each admits (R156, R172). Byte 0 of a request payload is its kind; parameters follow from byte 1. -/

namespace Sys2Proof.Machine
open Sys2Proof

/-! ### Sample frames -/

/-- The fields of a Sample payload of 22 bytes (R153). -/
def decodeSample (p : List Byte) : RawSample where
  index := natAt 0 2 p
  azimuth := natAt 2 3 p
  elevation := intAt 5 3 p
  count := intAt 8 4 p
  adm := natAt 12 4 p
  psdX := intAt 16 2 p
  psdY := intAt 18 2 p
  intensity := natAt 20 1 p
  admValid := bitAt 0 (natAt 21 1 p)
  motorFault := bitAt 1 (natAt 21 1 p)

/-! ### Request kinds and lengths -/

/-- The request kind byte, if the payload has one (R156). -/
def requestKind (p : List Byte) : Option Nat := p.head?.map BitVec.toNat

/-- A kind byte that is in the table of R156. -/
def knownKind (k : Nat) : Bool := 1 ≤ k && k ≤ 24

/-- The mode byte of a HEAD_MODE request. -/
def modeByte (p : List Byte) : Nat := natAt 2 1 p

/-- The lengths a HEAD_MODE request admits: 3 for ENABLE and DISABLE, 11 for AIM, either for an unknown mode (R172). -/
def headModeLength (p : List Byte) : Bool :=
  if p.length < 3 then false
  else match modeByte p with
    | 0 => p.length = 3
    | 1 => p.length = 3
    | 2 => p.length = 11
    | _ => p.length = 3 || p.length = 11

/-- A payload length, and for MEM_READ a byte count, that the kind admits (R172, test 3 of R171). -/
def lengthAdmitted (k : Nat) (p : List Byte) : Bool :=
  let len := p.length
  match k with
  | 1 => len = 2
  | 2 => len = 3
  | 3 => len = 2
  | 4 => len = 3
  | 5 => len = 6 && 1 ≤ natAt 5 1 p && natAt 5 1 p ≤ 48
  | 6 => len = 2
  | 7 => len = 21
  | 8 => len = 28
  | 9 => 6 ≤ len && len ≤ 52 && len % 2 = 0
  | 10 => len = 50
  | 11 => len = 10
  | 12 => len = 5
  | 13 => len = 13
  | 14 => len = 2
  | 15 => 6 ≤ len && len ≤ 53
  | 16 => len = 7
  | 17 => len = 1
  | 18 => len = 7
  | 19 => len = 7
  | 20 => len = 5
  | 21 => headModeLength p
  | 22 => len = 2
  | 23 => len = 2
  | 24 => len = 1
  | _ => false

/-! ### Parameters -/

/-- The cell key of PURGE_CELL, PIN_CELL and UNPIN_CELL. -/
def paramKey (p : List Byte) : CellKey := ⟨intAt 1 2 p, intAt 3 2 p, intAt 5 2 p⟩

/-- The head of READ_HEAD, HEAD_CONFIG, WRITE_COMP, WRITE_POSE and HEAD_MODE, or none for a number above 3. -/
def paramHead (p : List Byte) : Option Head := headOf (natAt 1 1 p)

/-- The subject of READ_FAULT and CLEAR_FAULT: a head, the part for 255, or none. -/
def paramSubject (p : List Byte) : Option (Option Head) :=
  if natAt 1 1 p = 255 then some none else (headOf (natAt 1 1 p)).map some

/-- SYNC_CONFIG with its period clamped (R113). -/
def paramSync (p : List Byte) : SyncConfig :=
  ⟨clampNat 20000 1000000 (natAt 1 4 p), ⟨natAt 5 4 p, natAt 9 4 p, natAt 13 4 p, natAt 17 4 p⟩⟩

/-- The count scale of HEAD_CONFIG (R2). -/
def paramScale (p : List Byte) : Nat := natAt 2 4 p

/-- The measurement fields of HEAD_CONFIG, clamped (R2). -/
def paramMeasure (p : List Byte) (m : Measure) : Measure :=
  { m with
    countScale := paramScale p
    deadband := clampNat 0 15 (natAt 7 1 p)
    distanceMax := clampNat 1000000 120000000 (natAt 8 4 p) }

/-- The tracking fields of HEAD_CONFIG, clamped (R30). -/
def paramSettings (p : List Byte) : TrackSettings where
  threshold := clampNat 1 255 (natAt 6 1 p)
  coastLimit := clampNat 1 255 (natAt 12 1 p)
  settleSelect := clampNat 0 3 (natAt 13 1 p)
  searchStep := clampNat 1 65535 (natAt 14 2 p)
  searchRings := clampNat 1 32 (natAt 16 1 p)
  searchDwell := clampNat 1 16 (natAt 17 1 p)
  maxRate := clampNat 1 1000000 (natAt 18 4 p)
  slipLimit := clampNat 1 65535 (natAt 22 2 p)
  silenceLimit := clampNat 1 255 (natAt 24 1 p)

/-- The decimation of HEAD_CONFIG, clamped (R161). -/
def paramDecimation (p : List Byte) : Nat := clampNat 1 64 (natAt 25 1 p)

/-- The trigger window of HEAD_CONFIG, clamped (R118). -/
def paramWindow (p : List Byte) : Nat := clampNat 1 4095 (natAt 26 2 p)

/-- The entries of WRITE_COMP, as many as the length carries (R7, R172). -/
def paramEntries (p : List Byte) : List Int := (List.range ((p.length - 4) / 2)).map fun i => intAt (4 + 2 * i) 2 p

/-- Three signed 32-bit values from an offset on. -/
def paramVec (p : List Byte) (off : Nat) : Vec3 := ⟨intAt off 4 p, intAt (off + 4) 4 p, intAt (off + 8) 4 p⟩

/-- The pose of WRITE_POSE: rotation by rows, then translation (R21). -/
def paramPose (p : List Byte) : Rotation × Vec3 :=
  (⟨paramVec p 2, paramVec p 14, paramVec p 26⟩, paramVec p 38)

/-- The interleave code of MEM_CONFIG, if it names an interleave (R126). -/
def paramInterleave (p : List Byte) : Option Interleave :=
  match natAt 1 1 p with
  | 0 => some .k2
  | 1 => some .k8
  | 2 => some .k32
  | 3 => some .m1
  | _ => none

/-- The timing set of MEM_CONFIG, each value clamped into its range (R127). -/
def paramTiming (p : List Byte) : Timing where
  activate := clampNat 10 60 (natAt 3 2 p)
  precharge := clampNat 10 60 (natAt 5 2 p)
  access := clampNat 10 80 (natAt 7 2 p)
  refresh := clampNat 60 350 (natAt 9 2 p)
  exit := clampNat 100 1000 (natAt 11 2 p)

/-- The refresh interval of MEM_CONFIG, clamped (R126). -/
def paramInterval (p : List Byte) : Nat := clampNat 1 64 (natAt 2 1 p)

/-- The slot of POINT_STATE, if it names one. -/
def paramSlot (p : List Byte) : Option Slot :=
  match natAt 3 1 p with
  | 0 => some .a
  | 1 => some .b
  | _ => none

/-- The state of POINT_STATE, if it names one. -/
def paramPointState (p : List Byte) : Option PointState :=
  match natAt 4 1 p with
  | 0 => some .open
  | 1 => some .captured
  | 2 => some .disabled
  | _ => none

/-! ### Taking a request -/

/-- The management unit takes the oldest request of its buffer when none is in hand and no answer is held (R169). The
commands of one kind take only a request of that kind for which p holds; a length the kind does not admit is answered
BAD_LENGTH (R171). -/
def State.serve (s : State) (k : Nat) (p : List Byte → Bool) (body : State → Request → State) : State :=
  match s.mgmt.inHand, s.mgmt.held, s.uplink.requests with
  | none, none, r :: rest =>
    if requestKind r.payload = some k && p r.payload then
      let s := { s with uplink := { s.uplink with requests := rest } }
      if lengthAdmitted k r.payload then body s r else s.giveAnswer r.tag k .badLength []
    else s
  | _, _, _ => s

/-- Every request of the kind is taken. -/
def anyPayload (_ : List Byte) : Bool := true

/-- A taken request stays in hand (R169). -/
def State.keepInHand (s : State) (tag : Byte) (w : Work) : State := { s with mgmt := { s.mgmt with inHand := some ⟨tag, w⟩ } }

/-- A table of lengths refuses the request, or the mode is not one of the three (R172): any HEAD_MODE command may take and
refuse it (log 14). -/
def headModeOf (mode : Nat) (p : List Byte) : Bool := !headModeLength p || modeByte p = mode || modeByte p > 2

/-- The target of a SET_SERVICE request. -/
def targetByte (p : List Byte) : Nat := natAt 1 1 p

/-- The request names a target, or a target or length that any SET_SERVICE command may take and refuse (log 14). -/
def serviceTarget (t : Nat) (p : List Byte) : Bool := p.length ≠ 2 || targetByte p = t || targetByte p > 3

end Sys2Proof.Machine
end

