-- ==== Sys2Proof/Machine/Reception.lean ====
section
/-! DEFINITION. The commands that are frames reaching a port (R144 to R148, R153, R31 to R33): BAD_FRAME, SAMPLE_FRAME,
HEAD_STATUS_FRAME, HEAD_COMMAND_FRAME, MANAGEMENT_REQUEST_FRAME, DISCARDED_GOOD_FRAME. A port judges whatever bytes it is
given, so the frame's bytes and not the command's name decide what happens (log 13). -/

namespace Sys2Proof.Machine
open Sys2Proof

/-! ### Samples -/

/-- The tracking unit takes samples of head n (R31). -/
def State.takesSamples (s : State) (n : Head) : Bool :=
  (s.service = .active || s.service = .hold) && !s.restartMark &&
    (s.ctx.get n).state ≠ .disabled && (s.ctx.get n).state ≠ .parked

/-- The sync index test of R32: l is the index of the most recent expiry, last the last accepted index. -/
def indexAccepted (l : Nat) (last : Option Nat) (i : Nat) : Bool :=
  if i = l then last ≠ some l
  else if i = indexBefore l then last ≠ some (indexBefore l) && last ≠ some l
  else false

/-- A sample passes the test of R32; before the first expiry every sample fails it. -/
def State.sampleAccepted (s : State) (n : Head) (r : RawSample) : Bool :=
  (latestIndex (s.headTime.get n)).any fun l => indexAccepted l (s.ctx.get n).lastIndex r.index

/-- A sample has a return (R33). -/
def hasReturn (t : TrackSettings) (r : RawSample) : Bool := r.intensity ≥ t.threshold && !r.motorFault

/-- The measured sample of an accepted sample: stages 1 to 6 with the distance source of R4 (R3 to R6, R117). -/
def State.measured (s : State) (n : Head) (r : RawSample) : MeasuredSample :=
  measureSample (s.measure.get n)
    (distanceSource (s.ctx.get n).state (hasReturn (s.settings.get n) r) r.admValid)
    (timestampOf (s.headTime.get n).history r.index) r

/-- The context with an accepted sample's index, heard mark and latest sample record (R32, R33). -/
def Context.accept (c : Context) (m : MeasuredSample) : Context :=
  { c with
    lastIndex := some m.index, heard := true
    latest := some ⟨m.index, m.az, m.el, m.adm, m.admValid, m.count⟩ }

/-- An accepted sample: measured, its transition applied, and handed on with the state after it (R33). -/
def State.acceptSample (s : State) (n : Head) (r : RawSample) : State :=
  let m := s.measured n r
  let s := s.transition n ((s.ctx.get n).accept m) m (hasReturn (s.settings.get n) r)
  s.lookupSample n { m with tracking := (s.ctx.get n).state }

/-- A sample of head n reaches the tracking unit (R31, R32). -/
def State.takeSample (s : State) (n : Head) (r : RawSample) : State :=
  if !s.takesSamples n then s
  else if s.sampleAccepted n r then s.acceptSample n r
  else s.raise (some n) .sampleSequence r.index

/-! ### Head Commands -/

/-- A Head Command with the motion flag takes over a COASTING or SEARCHING context (R52). -/
def State.motionCommand (s : State) (n : Head) : State :=
  let c := s.ctx.get n
  if c.state = .coasting || c.state = .searching then
    s.changeState n { c with timer := 0, search := none, predicted := none } .lost .motionCommand
  else s

/-- A Head Command joins its head's forward buffer and its motion flag is seen, or it is discarded and counted when the
buffer is full (R148, R52). -/
def State.forwardDown (s : State) (n : Head) (f : List Byte) : State :=
  let p := s.ports.get n
  if p.forward.length < Config.forwardPlaces then
    let s := (s.setPort n { p with forward := p.forward ++ [f] }).kickHead n
    if frameMotion f then s.motionCommand n else s
  else s.countBad .uplink

/-! ### Routing -/

/-- A good frame received on a head port, routed by its kind and destination (R147, R153). -/
def State.routeHead (s : State) (n : Head) (f : List Byte) : State :=
  if frameKind f = kindSample && frameDest f = codePart && frameLength f = samplePayload then
    s.takeSample n (decodeSample (framePayload f))
  else if frameKind f = kindHeadStatus && frameDest f = codeSurvey then s.forwardUp n f
  else s.countBad (.head n)

/-- A good frame received on the uplink, routed by its kind and destination (R148). -/
def State.routeUplink (s : State) (f : List Byte) : State :=
  if frameKind f = kindRequest && frameDest f = codePart then s.bufferRequest f
  else if frameKind f = kindHeadCommand then
    match headOfCode (frameDest f) with
    | some n => s.forwardDown n f
    | none => s.countBad .uplink
  else s.countBad .uplink

/-- A good frame routed at its port. -/
def State.route (s : State) (p : Port) (f : List Byte) : State :=
  match p with
  | .head n => s.routeHead n f
  | .uplink => s.routeUplink f

/-- A frame delivered to a port by its line layer: judged, then the link state, then routed (R144, R146). -/
def State.receive (s : State) (p : Port) (f : List Byte) : State :=
  if frameBad f then s.countBad p else (s.linkUp p).route p f

/-! ### The commands -/

/-- BAD_FRAME (R144). -/
def execBadFrame (p : Port) (f : List Byte) (s : State) : Out := .next (s.receive p f)

/-- SAMPLE_FRAME (R33, R147). -/
def execSampleFrame (n : Head) (f : List Byte) (s : State) : Out := .next (s.receive (.head n) f)

/-- HEAD_STATUS_FRAME (R147). -/
def execHeadStatusFrame (n : Head) (f : List Byte) (s : State) : Out := .next (s.receive (.head n) f)

/-- HEAD_COMMAND_FRAME (R148, R52). -/
def execHeadCommandFrame (f : List Byte) (s : State) : Out := .next (s.receive .uplink f)

/-- MANAGEMENT_REQUEST_FRAME (R148). -/
def execManagementRequestFrame (f : List Byte) (s : State) : Out := .next (s.receive .uplink f)

/-- DISCARDED_GOOD_FRAME (R147, R148, R153). -/
def execDiscardedGoodFrame (p : Port) (f : List Byte) (s : State) : Out := .next (s.receive p f)

end Sys2Proof.Machine
end

