-- ==== Sys2Proof/Machine/Reads.lean ====
section
/-! DEFINITION. The read requests (R62, R122, R174, R181) and the data of their answers, item by item in the order of R174 and
by the conventions of R173. The width of each item is the smallest of 1, 2, 4 or 8 bytes for its range (log 29). -/

namespace Sys2Proof.Machine
open Sys2Proof

/-! ### Items -/

/-- Unsigned items of 1, 2, 4 and 8 bytes. -/
def n1 (v : Nat) : List Byte := natLE 1 v
def n2 (v : Nat) : List Byte := natLE 2 v
def n4 (v : Nat) : List Byte := natLE 4 v
def n8 (v : Nat) : List Byte := natLE 8 v

/-- One item for each head, head 0 first. -/
def eachHead (f : Head → List Byte) : List Byte := f .h0 ++ f .h1 ++ f .h2 ++ f .h3

/-- Three items of k bytes. -/
def keyItem (k : CellKey) : List Byte := intLE 2 k.cx ++ intLE 2 k.cy ++ intLE 2 k.cz

/-! ### READ_PART -/

/-- READ_PART section 0. -/
def partPorts (s : State) : List Byte :=
  n1 s.service.code ++ eachHead (fun n => markByte (s.ports.get n).up ++ n2 (s.ports.get n).bad) ++
    markByte s.uplink.up ++ n2 s.uplink.bad

/-- The drain reads outstanding: those whose data has not come (R103, R107; DEDUCED, log 27). -/
def drainsOutstanding (sp : Spill) : Nat := sp.drains.countP fun d => d.data.isNone

/-- READ_PART section 1. -/
def partTable (s : State) : List Byte :=
  let l := s.lookup
  let sp := s.spill
  markByte l.configured ++ n4 l.base ++ n4 l.bucketCount ++ n1 l.shift ++
    n1 (l.records.countP Option.isSome) ++ n1 l.pinCount ++ n1 l.victim ++ n1 l.walks.length ++ n1 l.rewalk.length ++
    markByte sp.configured ++ n4 sp.base ++ n2 sp.readPos ++ n2 sp.writePos ++ n2 sp.count ++ n1 sp.writes.length ++
    n1 (drainsOutstanding sp) ++ n4 (s.capture.nextNumber.getD 0) ++ n1 s.capture.writeback.length ++
    optItem 1 (s.capture.attempt.map fun n => n1 (headNumber n))

/-- The requests that wait from a requester (R125, R132). Of the write-back queue every WAITING entry is counted, 0 to 8, and
not the one offered alone (DESIGN CHOICE, log 38). -/
def State.waitingRequests (s : State) : Requester → Nat
  | .walk => s.mem.walkQueue.length
  | .writeback => s.capture.writeback.countP fun e => e.phase = .waiting
  | .spill => s.mem.spillQueue.length
  | .mgmt => if s.mem.mgmt.isSome then 1 else 0

/-- READ_PART section 2. -/
def partMemory (s : State) : List Byte :=
  let m := s.mem
  n1 m.state.code ++ markByte m.quiesce ++ n1 m.interleave.code ++ n1 m.refreshInterval ++
    n1 m.timing.activate ++ n1 m.timing.precharge ++ n1 m.timing.access ++ n2 m.timing.refresh ++ n2 m.timing.exit ++
    markByte m.x1 ++ markByte m.x2 ++ markByte m.x3 ++ n1 m.owed ++
    optItem 1 (s.access.map fun a => n1 a.requesterCode) ++
    n1 (s.waitingRequests .walk) ++ n1 (s.waitingRequests .writeback) ++ n1 (s.waitingRequests .spill) ++
    n1 (s.waitingRequests .mgmt)

/-- READ_PART section 3. -/
def partReport (s : State) : List Byte :=
  let r := s.report
  n1 r.occupancy ++ n1 r.posCount ++ n1 r.reserved ++ n1 (slotCode r.partSlot) ++
    eachHead (fun n => n1 (slotCode (r.headSlots.get n))) ++ n1 (subjectCode r.visiting) ++
    eachHead (fun n => let d := r.decimation.get n; n1 d.configured ++ n1 d.effective ++ n1 d.count)

/-- READ_PART by section. -/
def partData (s : State) (section_ : Nat) : Option (List Byte) :=
  match section_ with
  | 0 => some (partPorts s)
  | 1 => some (partTable s)
  | 2 => some (partMemory s)
  | 3 => some (partReport s)
  | _ => none

/-! ### READ_HEAD -/

/-- A locked sample of the history. -/
def lockedItem (l : LockedSample) : List Byte := intLE 4 l.az ++ intLE 4 l.el ++ n2 l.index

/-- READ_HEAD section 0. -/
def headContext (c : Context) : List Byte :=
  n1 c.state.code ++ n2 c.timer ++ n1 c.silence ++ markByte c.heard ++ optItem 2 (c.lastIndex.map n2) ++
    optItem 10 (c.newest.map lockedItem) ++ optItem 10 (c.previous.map lockedItem) ++
    intLE 4 c.velAz ++ intLE 4 c.velEl ++ optItem 8 (c.predicted.map fun p => intLE 4 p.1 ++ intLE 4 p.2) ++ n1 c.attempts

/-- A search record. -/
def searchItem (q : SearchRecord) : List Byte :=
  intLE 4 q.centreAz ++ intLE 4 q.centreEl ++ n2 q.step ++ n1 q.rings ++ n1 q.dwell ++ n1 q.ring ++ n2 q.pos ++
    markByte q.centreFirst

/-- A latest sample record. -/
def latestItem (l : LatestSample) : List Byte :=
  n2 l.index ++ intLE 4 l.az ++ intLE 4 l.el ++ n4 l.adm ++ markByte l.admValid ++ intLE 4 l.count

/-- A trigger record; an IDLE one shows zeros (R173). -/
def triggerItem : Option TriggerRecord → List Byte
  | some r => n1 1 ++ n8 r.edgeTime ++ n2 r.edgeIndex ++ n2 r.periodsLeft
  | none => n1 0 ++ n8 0 ++ n2 0 ++ n2 0

/-- READ_HEAD section 1. -/
def headSearch (c : Context) (h : HeadTime) : List Byte :=
  optItem 16 (c.search.map searchItem) ++ optItem 19 (c.latest.map latestItem) ++ triggerItem h.trigger ++ n2 h.window

/-- READ_HEAD section 2. -/
def headSettings (m : Measure) (t : TrackSettings) (d : Decimation) (q : SettleQueue) : List Byte :=
  n4 m.countScale ++ n1 m.deadband ++ n4 m.distanceMax ++ intLE 8 m.anchor ++
    n1 t.threshold ++ n1 t.coastLimit ++ n1 t.settleSelect ++ n2 t.searchStep ++ n1 t.searchRings ++ n1 t.searchDwell ++
    n4 t.maxRate ++ n2 t.slipLimit ++ n1 t.silenceLimit ++ n1 d.configured ++ n1 d.effective ++ n1 d.count ++
    n1 q.entries.length ++ optItem 5 (q.candidate.map fun c => n2 c.id ++ n2 c.bucket ++ n1 c.slot.code) ++
    optItem 2 (q.poseGen.map n2) ++ n1 q.run

/-- READ_HEAD section 3. -/
def headPose (m : Measure) : List Byte :=
  vecLE 4 m.rotation.row1 ++ vecLE 4 m.rotation.row2 ++ vecLE 4 m.rotation.row3 ++ vecLE 4 m.translation ++ n2 m.poseGen

/-- READ_HEAD by section. -/
def headData (s : State) (n : Head) (section_ : Nat) : Option (List Byte) :=
  match section_ with
  | 0 => some (headContext (s.ctx.get n))
  | 1 => some (headSearch (s.ctx.get n) (s.headTime.get n))
  | 2 => some (headSettings (s.measure.get n) (s.settings.get n) (s.report.decimation.get n) (s.settle.get n))
  | 3 => some (headPose (s.measure.get n))
  | _ => none

/-! ### READ_TIME -/

/-- The time of the next epoch in 8 bytes (R122). Of a time beyond 2^64 - 1, the timebase's top value (R109), a free value:
DESIGN CHOICE, log 41. -/
def epochItem (t : Nat) : List Byte := if t < 18446744073709551616 then n8 t else n8 (Config.unstatedEpoch t).toNat

/-- READ_TIME section 0. -/
def timeState (t : TimeBase) : List Byte :=
  n8 t.timebase ++ n1 t.refState.code ++ markByte t.onceLocked ++ n4 t.lockUp ++ markByte t.present ++ n1 t.quality.code ++
    n2 t.syncIndex ++ epochItem t.nextEpoch ++ n4 t.period ++ optItem 4 (t.pendingSync.map fun c => n4 c.period)

/-- READ_TIME section 1. -/
def timePhases (s : State) : List Byte :=
  eachHead (fun n => n4 (s.headTime.get n).phase) ++ eachHead (fun n => n4 (s.headTime.get n).effPhase) ++
    eachHead (fun n => n4 ((s.time.pendingSync.map fun c => c.phases.get n).getD 0))

/-- READ_TIME sections 2 to 5. -/
def timeHistory (s : State) (n : Head) : List Byte :=
  n8 s.time.timebase ++ n2 s.time.syncIndex ++
    listItem 4 10 ((s.headTime.get n).history.map fun e => n2 e.index ++ n8 e.time)

/-- READ_TIME by section. -/
def timeData (s : State) (section_ : Nat) : Option (List Byte) :=
  match section_ with
  | 0 => some (timeState s.time)
  | 1 => some (timePhases s)
  | k + 2 => (headOf k).map (timeHistory s)

/-! ### READ_CELL -/

/-- A point of a record. -/
def pointItem (p : Point) : List Byte :=
  n2 p.bucket ++ n1 p.slot.code ++ n2 p.id ++ vecLE 4 p.nominal ++ n2 p.tolerance ++ n1 p.settle ++ n1 p.mode.code ++
    n1 p.state.code ++ n1 p.capHead ++ n4 p.capNumber

/-- The marks and key of a record, as every part of a READ_CELL answer repeats them; an invalid record's key is a free value
(R62, R174; log 10). -/
def cellMarks (freeKey : BitVec 48) : Option CellRecord → List Byte
  | some r => markByte true ++ markByte r.pinned ++ keyItem r.key ++ markByte r.incomplete ++ markByte r.overflow
  | none => markByte false ++ markByte false ++ natLE 6 freeKey.toNat ++ markByte false ++ markByte false

/-- READ_CELL by part. -/
def cellData (freeKey : BitVec 48) (r : Option CellRecord) (part : Nat) : Option (List Byte) :=
  match part with
  | 0 => some (cellMarks freeKey r ++ listItem 4 2 ((r.map CellRecord.visited).getD [] |>.map n2) ++
      n1 ((r.map CellRecord.points).getD []).length)
  | k + 1 =>
    if k < 4 then
      some (cellMarks freeKey r ++ optItem 27 ((((r.map CellRecord.points).getD [])[k]?).map pointItem))
    else none

/-! ### READ_FAULT -/

/-- READ_FAULT (R181). -/
def faultData (r : FaultRecord) : List Byte :=
  (match r.first with
    | some f => markByte true ++ n1 f.kind.code ++ n8 f.time ++ n8 f.detail
    | none => markByte false ++ n1 0 ++ n8 0 ++ n8 0) ++
    listItem 8 1 (r.further.map fun k => n1 k.code)

/-! ### The commands -/

/-- A read is answered in the moment it is taken: OK with its data, or BAD_VALUE (R174). -/
def State.answerRead (s : State) (tag : Byte) (k : Nat) (data : Option (List Byte)) : State :=
  match data with
  | some d => s.giveAnswer tag k .ok d
  | none => s.giveAnswer tag k .badValue []

/-- READ_PART (R174). -/
def execReadPart (s : State) : Out :=
  .next (s.serve 1 anyPayload fun s r => s.answerRead r.tag 1 (partData s (natAt 1 1 r.payload)))

/-- READ_HEAD (R174). -/
def execReadHead (s : State) : Out :=
  .next (s.serve 2 anyPayload fun s r =>
    s.answerRead r.tag 2 ((paramHead r.payload).bind fun n => headData s n (natAt 2 1 r.payload)))

/-- READ_TIME (R122, R174). -/
def execReadTime (s : State) : Out :=
  .next (s.serve 3 anyPayload fun s r => s.answerRead r.tag 3 (timeData s (natAt 1 1 r.payload)))

/-- READ_CELL (R62, R174). -/
def execReadCell (s : State) : Out :=
  .next (s.serve 4 anyPayload fun s r =>
    let i := natAt 1 1 r.payload
    if i < Config.cacheRecords then
      let rec_ := recordAt s.lookup.records i
      let key := Config.unstatedCellKey s.freeCount
      let s := if rec_.isNone then { s with freeCount := s.freeCount + 1 } else s
      s.answerRead r.tag 4 (cellData key rec_ (natAt 2 1 r.payload))
    else s.answerRead r.tag 4 none)

/-- READ_FAULT (R174, R181). -/
def execReadFault (s : State) : Out :=
  .next (s.serve 6 anyPayload fun s r =>
    s.answerRead r.tag 6 ((paramSubject r.payload).map fun k => faultData (s.faultRecord k)))

/-- UNKNOWN_KIND_REQUEST: a request of length 0, or of a kind byte that is not in the table (R156, R171). -/
def execUnknownKindRequest (s : State) : Out :=
  .next (match s.mgmt.inHand, s.mgmt.held, s.uplink.requests with
    | none, none, r :: rest =>
      let s' := { s with uplink := { s.uplink with requests := rest } }
      match requestKind r.payload with
      | none => s'.giveAnswer r.tag 0 .badLength []
      | some k => if knownKind k then s else s'.giveAnswer r.tag k .unknownKind []
    | _, _, _ => s)

end Sys2Proof.Machine
end

