-- ==== Sys2Proof/Machine/Setup.lean ====
section
/-! DEFINITION. The setup requests (R175, R176): SYNC_CONFIG, HEAD_CONFIG, WRITE_COMP, WRITE_POSE, TABLE_CONFIG with its
application, SPILL_CONFIG, MEM_CONFIG and SET_ARBITER. -/

namespace Sys2Proof.Machine
open Sys2Proof

/-- The service state lets a table or ring configuration be taken (R57, R104). -/
def State.configurable (s : State) : Bool := s.service = .start || s.service = .hold

/-! ### Time base and heads (R175) -/

/-- A sync configuration becomes the pending one (R113). -/
def State.setPendingSync (s : State) (c : SyncConfig) : State := { s with time := { s.time with pendingSync := some c } }

/-- SYNC_CONFIG (R113). -/
def execSyncConfig (s : State) : Out :=
  .next (s.serve 7 anyPayload fun s r => (s.setPendingSync (paramSync r.payload)).giveAnswer r.tag 7 .ok [])

/-- The fields of a HEAD_CONFIG stored for head n, each clamped (R2, R30, R118, R161). -/
def State.configureHead (s : State) (n : Head) (p : List Byte) : State :=
  let d := paramDecimation p
  (((s.setMeasure n (paramMeasure p (s.measure.get n))).setSettings n (paramSettings p)).setDecimation n
      { s.report.decimation.get n with configured := d, effective := d }).setHeadTime n
    { s.headTime.get n with window := paramWindow p }

/-- HEAD_CONFIG (R2, R175). -/
def execHeadConfig (s : State) : Out :=
  .next (s.serve 8 anyPayload fun s r =>
    match paramHead r.payload with
    | none => s.giveAnswer r.tag 8 .badValue []
    | some n =>
      if paramScale r.payload = 0 then s.giveAnswer r.tag 8 .badValue []
      else (s.configureHead n r.payload).giveAnswer r.tag 8 .ok [])

/-- A compensation table with entries written from a first index on (R7). -/
def writeEntries (first : Nat) (es : List Int) (t : List Int) : List Int :=
  t.take first ++ es ++ t.drop (first + es.length)

/-- The entries of one axis of head n's compensation written (R7); axis 0 is the azimuth. -/
def State.writeCompensation (s : State) (n : Head) (axis first : Nat) (es : List Int) : State :=
  let m := s.measure.get n
  s.setMeasure n (if axis = 0 then { m with compAz := writeEntries first es m.compAz }
    else { m with compEl := writeEntries first es m.compEl })

/-- WRITE_COMP (R7, R175). -/
def execWriteComp (s : State) : Out :=
  .next (s.serve 9 anyPayload fun s r =>
    let axis := natAt 2 1 r.payload
    let first := natAt 3 1 r.payload
    let es := paramEntries r.payload
    match paramHead r.payload with
    | none => s.giveAnswer r.tag 9 .badValue []
    | some n =>
      if axis > 1 || first + es.length > 256 then s.giveAnswer r.tag 9 .badValue []
      else (s.writeCompensation n axis first es).giveAnswer r.tag 9 .ok [])

/-- A pose stored for head n with the next pose generation, the head's settle queue cleared, and its waiting attempt dropped
(R21, R89, R92). -/
def State.storePose (s : State) (n : Head) (pose : Rotation × Vec3) : State :=
  let m := s.measure.get n
  let m' := { m with rotation := pose.1, translation := pose.2, poseGen := indexAfter m.poseGen }
  ((s.setMeasure n m').clearSettle n).dropAttempts fun a => a.head = n

/-- WRITE_POSE (R21, R175). -/
def execWritePose (s : State) : Out :=
  .next (s.serve 10 anyPayload fun s r =>
    match paramHead r.payload with
    | none => s.giveAnswer r.tag 10 .badValue []
    | some n =>
      let s := s.storePose n (paramPose r.payload)
      s.giveAnswer r.tag 10 .ok (n2 (s.measure.get n).poseGen))

/-! ### TABLE_CONFIG (R57, R58) -/

/-- Bytes of a table. -/
def tableBytes (bucketCount : Nat) : Nat := bucketCount * Config.bucketBytes

/-- A bucket count is one of the powers of two from 256 to 65,536 (R57). -/
def legalBucketCount (b : Nat) : Bool := [256, 512, 1024, 2048, 4096, 8192, 16384, 32768, 65536].contains b

/-- The tests of R57 in their order: the first status that applies, or none. -/
def State.tableTests (s : State) (base bucketCount shift : Nat) : Option Status :=
  if !s.configurable then some .wrongState
  else if shift < 16 || shift > 22 then some .badValue
  else if !legalBucketCount bucketCount then some .badValue
  else if base % tableBytes bucketCount ≠ 0 then some .align
  else if base ≥ Config.memorySize then some .address
  else if s.spill.configured && overlap s.spill.base Config.ringBytes base (tableBytes bucketCount) then some .address
  else none

/-- TABLE_CONFIG (R57): tested, and when taken it stays in hand until it is applied (log 21). -/
def execTableConfig (s : State) : Out :=
  .next (s.serve 11 anyPayload fun s r =>
    let base := natAt 1 4 r.payload
    let count := natAt 5 4 r.payload
    let shift := natAt 9 1 r.payload
    match s.tableTests base count shift with
    | some st => s.giveAnswer r.tag 11 st []
    | none => s.keepInHand r.tag (.tableConfig base count shift))

/-- A table configuration applied, as one change (R58). -/
def State.applyTable (s : State) (base bucketCount shift : Nat) : State :=
  let s := { s with lookup := { s.lookup with
    configured := true, base := base, bucketCount := bucketCount, shift := shift
    records := List.replicate Config.cacheRecords none, rewalk := [], victim := 0 } }
  (s.lookup.walks.foldl State.discardWalk s).finishAllLate fun _ => true

/-- TABLE_CONFIG_APPLY (R58): once the write-back queue is empty. -/
def execTableConfigApply (s : State) : Out :=
  .next (match s.mgmt.inHand.map InHand.work with
    | some (.tableConfig base count shift) =>
      if s.capture.writeback.isEmpty then (s.applyTable base count shift).answerInHand .ok [] else s
    | _ => s)

/-! ### SPILL_CONFIG (R104) -/

/-- The tests of R104 in their order. -/
def State.spillTests (s : State) (base : Nat) : Option Status :=
  if !s.configurable then some .wrongState
  else if s.spill.count > 0 || s.capture.attempt.isSome || !s.spill.writes.isEmpty || !s.spill.drains.isEmpty then
    some .wrongState
  else if base % Config.ringBytes ≠ 0 then some .align
  else if base ≥ Config.memorySize then some .address
  else if s.lookup.configured && overlap base Config.ringBytes s.lookup.base (tableBytes s.lookup.bucketCount) then
    some .address
  else none

/-- The ring placed and emptied (R104). -/
def State.placeRing (s : State) (base : Nat) : State :=
  { s with spill := { s.spill with configured := true, base := base, readPos := 0, writePos := 0, count := 0 } }

/-- SPILL_CONFIG (R104). -/
def execSpillConfig (s : State) : Out :=
  .next (s.serve 12 anyPayload fun s r =>
    let base := natAt 1 4 r.payload
    match s.spillTests base with
    | some st => s.giveAnswer r.tag 12 st []
    | none => (s.placeRing base).giveAnswer r.tag 12 .ok [])

/-! ### MEM_CONFIG and SET_ARBITER (R126, R127, R134) -/

/-- The memory configuration stored (R126, R127). -/
def State.configureMemory (s : State) (i : Interleave) (interval : Nat) (t : Timing) : State :=
  { s with mem := { s.mem with interleave := i, refreshInterval := interval, timing := t } }

/-- MEM_CONFIG (R126, R127). -/
def execMemConfig (s : State) : Out :=
  .next (s.serve 13 anyPayload fun s r =>
    if s.service ≠ .start then s.giveAnswer r.tag 13 .wrongState []
    else match paramInterleave r.payload with
      | none => s.giveAnswer r.tag 13 .badValue []
      | some i =>
        (s.configureMemory i (paramInterval r.payload) (paramTiming r.payload)).giveAnswer r.tag 13 .ok [])

/-- The exchange options stored (R134). -/
def State.setExchange (s : State) (options : Nat) : State :=
  { s with mem := { s.mem with x1 := bitAt 0 options, x2 := bitAt 1 options, x3 := bitAt 2 options } }

/-- SET_ARBITER (R134). -/
def execSetArbiter (s : State) : Out :=
  .next (s.serve 14 anyPayload fun s r => (s.setExchange (natAt 1 1 r.payload)).giveAnswer r.tag 14 .ok [])

end Sys2Proof.Machine
end

