-- ==== Sys2Proof/Machine/TableRequests.lean ====
section
/-! DEFINITION. The table requests (R177): MEM_READ, MEM_WRITE, the purges, the pins and POINT_STATE, with what resumes each
that waits and what its access completes. -/

namespace Sys2Proof.Machine
open Sys2Proof

/-- Memory initialization is complete (R76, R100). -/
def MemState.initialized : MemState → Bool
  | .uninitialized | .initializing => false
  | .ready | .selfRefresh | .exiting => true

/-- QUIESCING, STANDBY or WAKING (R76, R100). -/
def ServiceState.resting : ServiceState → Bool
  | .quiescing | .standby | .waking => true
  | .start | .init | .active | .hold => false

/-! ### MEM_READ and MEM_WRITE (R138, R139, R102) -/

/-- The tests MEM_READ and MEM_WRITE share, in their order (R138, R139). -/
def State.accessTests (s : State) (addr len : Nat) : Option Status :=
  if s.service = .standby then some .wrongState
  else if s.mem.state ≠ .ready then some .notReady
  else if !inMemory addr len then some .address
  else none

/-- The tests of R139. -/
def State.writeTests (s : State) (addr len : Nat) : Option Status :=
  match s.accessTests addr len with
  | some st => some st
  | none => if s.spill.configured && overlap addr len s.spill.base Config.ringBytes then some .address else none

/-- A byte range overlaps a slot with a pending write-back entry (R102). -/
def State.writebackOver (s : State) (addr len : Nat) : Bool :=
  s.capture.writeback.any fun e => overlap addr len (slotAddress s.lookup.base e.bucket e.slot) Config.slotBytes

/-- MEM_READ (R138). -/
def execMemRead (s : State) : Out :=
  .next (s.serve 5 anyPayload fun s r =>
    let addr := natAt 1 4 r.payload
    let len := natAt 5 1 r.payload
    match s.accessTests addr len with
    | some st => s.giveAnswer r.tag 5 st []
    | none => (s.keepInHand r.tag (.memRead addr len)).requestMgmt (.read addr len))

/-- MEM_WRITE (R139): held behind write-backs over its range, or made the MGMT request (R102). -/
def execMemWrite (s : State) : Out :=
  .next (s.serve 15 anyPayload fun s r =>
    let addr := natAt 1 4 r.payload
    let data := r.payload.drop 5
    match s.writeTests addr data.length with
    | some st => s.giveAnswer r.tag 15 st []
    | none =>
      if s.writebackOver addr data.length then s.keepInHand r.tag (.memWriteBlocked addr data)
      else (s.keepInHand r.tag (.memWrite addr data)).requestMgmt (.write addr data))

/-- MEM_WRITE_RESUME (R102): once no write-back over the range is pending. -/
def execMemWriteResume (s : State) : Out :=
  .next (match s.mgmt.inHand with
    | some ⟨tag, .memWriteBlocked addr data⟩ =>
      if s.writebackOver addr data.length then s
      else (s.keepInHand tag (.memWrite addr data)).requestMgmt (.write addr data)
    | _ => s)

/-- MEM_READ_DONE (R138): answered with the bytes as table memory holds them. -/
def execMemReadDone (s : State) : Out :=
  match s.access, s.mgmt.inHand.map InHand.work with
  | some (.mgmt (.read addr len)), some (.memRead _ _) =>
    withinMemory addr len (s.endAccess.answerInHand .ok (s.readBytes addr len))
  | _, _ => .next s

/-- MEM_WRITE_DONE (R81, R139). -/
def execMemWriteDone (s : State) : Out :=
  match s.access, s.mgmt.inHand.map InHand.work with
  | some (.mgmt (.write addr data)), some (.memWrite _ _) =>
    withinMemory addr data.length
      (((s.endAccess.writeBytes addr data).applyWrite addr data.length).answerInHand .ok [])
  | _, _ => .next s

/-! ### Purges (R79, R80) -/

/-- One key purged (R79). -/
def State.purgeKey (s : State) (k : CellKey) : State :=
  let l := s.lookup.mapKey k fun _ => none
  let s' := { s with lookup := { l with rewalk := l.rewalk.filter fun k' => k' != k } }
  match s.lookup.walkFor k with
  | some w => s'.purgeWalk w
  | none => s'

/-- PURGE_CELL (R79). -/
def execPurgeCell (s : State) : Out :=
  .next (s.serve 16 anyPayload fun s r => (s.purgeKey (paramKey r.payload)).giveAnswer r.tag 16 .ok [])

/-- Everything purged; the victim pointer stays (R80). -/
def State.purgeEvery (s : State) : State :=
  s.lookup.walks.foldl State.purgeWalk
    { s with lookup := { s.lookup with records := List.replicate Config.cacheRecords none, rewalk := [] } }

/-- PURGE_ALL (R80). -/
def execPurgeAll (s : State) : Out :=
  .next (s.serve 17 anyPayload fun s r => s.purgeEvery.giveAnswer r.tag 17 .ok [])

/-! ### Pins (R75 to R77) -/

/-- A walk in flight for a key carries a pin. -/
def Lookup.walkPins (l : Lookup) (k : CellKey) : Bool := (l.walkFor k).any Walk.pin

/-- The data of a PIN_CELL answered at once: of the record, or zeros for a pin that a walk or the re-walk list holds (R177). -/
def Lookup.pinAnswer (l : Lookup) (k : CellKey) : List Byte :=
  match l.find k with
  | some r => pinData ((recordIndex k l.records).getD 0) r
  | none => [0, 0, 0]

/-- What PIN_CELL's cases decide (R76). -/
inductive PinCase where
  /-- NOT_READY, PIN_LIMIT or WRONG_STATE. -/
  | refused (st : Status)
  /-- The key has its pin already. -/
  | held
  /-- An unpinned record takes the pin. -/
  | record
  /-- A walk in flight takes the pin. -/
  | joinWalk (w : Walk)
  /-- A management walk starts with the pin. -/
  | newWalk
  /-- The management charge is held: the request waits. -/
  | wait
  deriving DecidableEq, Repr

/-- The cases of R76 in their order. -/
def State.pinCase (s : State) (k : CellKey) : PinCase :=
  let l := s.lookup
  if !l.configured || !s.mem.state.initialized then .refused .notReady
  else if (l.find k).any CellRecord.pinned || l.walkPins k || l.rewalk.contains k then .held
  else if (l.find k).isSome && l.pinCount < Config.pinLimit then .record
  else if l.pinCount ≥ Config.pinLimit then .refused .pinLimit
  else if s.service.resting then .refused .wrongState
  else match l.walkFor k with
    | some w => .joinWalk w
    | none => if l.chargeFree .management then .newWalk else .wait

/-- A valid record's pin set or cleared. -/
def Lookup.setPin (l : Lookup) (k : CellKey) (v : Bool) : Lookup := l.mapKey k fun r => some { r with pinned := v }

/-- A PIN_CELL with a tag does what its case says (R76). -/
def State.pinKey (s : State) (tag : Byte) (k : CellKey) : State :=
  match s.pinCase k with
  | .refused st => s.giveAnswer tag 18 st []
  | .held => s.giveAnswer tag 18 .ok (s.lookup.pinAnswer k)
  | .record =>
    let s := { s with lookup := s.lookup.setPin k true }
    s.giveAnswer tag 18 .ok (s.lookup.pinAnswer k)
  | .joinWalk w =>
    { s with lookup := s.lookup.mapWalk w.charge fun w => { w with pin := true } }.keepInHand tag (.pinForWalk k)
  | .newWalk => (s.startWalk .management k [] true).keepInHand tag (.pinForWalk k)
  | .wait => s.keepInHand tag (.pinForCharge k)

/-- PIN_CELL (R76). -/
def execPinCell (s : State) : Out :=
  .next (s.serve 18 anyPayload fun s r => s.pinKey r.tag (paramKey r.payload))

/-- PIN_CELL_RESUME (R66, R76): once the management charge is free. -/
def execPinCellResume (s : State) : Out :=
  .next (match s.mgmt.inHand with
    | some ⟨tag, .pinForCharge k⟩ => if s.lookup.chargeFree .management then s.pinKey tag k else s
    | _ => s)

/-- A pin taken from a walk; with no waiter the walk is cancelled (R73, R77). -/
def State.unpinWalk (s : State) (w : Walk) : State :=
  let s' := { s with lookup := s.lookup.mapWalk w.charge fun w => { w with pin := false } }
  if w.waiters.isEmpty then s'.dropWalk w else s'

/-- A key's pin released wherever it is held (R77). -/
def State.unpinKey (s : State) (k : CellKey) : State :=
  let l := s.lookup.setPin k false
  let s' := { s with lookup := { l with rewalk := l.rewalk.filter fun k' => k' != k } }
  match s.lookup.walkFor k with
  | some w => if w.pin then s'.unpinWalk w else s'
  | none => s'

/-- A key has a pin: in its record, its walk or the re-walk list (R77). -/
def Lookup.keyPinned (l : Lookup) (k : CellKey) : Bool :=
  (l.find k).any CellRecord.pinned || l.walkPins k || l.rewalk.contains k

/-- UNPIN_CELL (R77). -/
def execUnpinCell (s : State) : Out :=
  .next (s.serve 19 anyPayload fun s r =>
    let k := paramKey r.payload
    (s.unpinKey k).giveAnswer r.tag 19 .ok (markByte (s.lookup.keyPinned k)))

/-! ### POINT_STATE (R100, R101, R82) -/

/-- The tests of R100 in their order. -/
def State.pointTests (s : State) (p : List Byte) : Option Status :=
  if s.service.resting then some .wrongState
  else if !s.lookup.configured || !s.mem.state.initialized then some .notReady
  else if natAt 1 2 p ≥ s.lookup.bucketCount then some .badValue
  else if (paramSlot p).isNone || (paramPointState p).isNone then some .badValue
  else none

/-- The values a POINT_STATE sets, as an own write; none is "as it stands" (R100). -/
def pointValues (b : Nat) (sl : Slot) : PointState → PointWrite
  | .open => ⟨b, sl, true, some false, some 255, some 0⟩
  | .captured => ⟨b, sl, true, some true, none, none⟩
  | .disabled => ⟨b, sl, false, none, none, none⟩

/-- A cached point changed when a POINT_STATE is taken (R100). -/
def PointWrite.onPoint (w : PointWrite) (asked : PointState) (p : Point) : Point :=
  { p with state := asked, capHead := w.capHead.getD p.capHead, capNumber := w.capNumber.getD p.capNumber }

/-- A WAITING entry merged with a POINT_STATE (R101). -/
def PointWrite.onEntry (w : PointWrite) (e : WbEntry) : WbEntry :=
  { e with
    enabled := w.enabled, captured := w.captured.getD e.captured
    capHead := w.capHead.getD e.capHead, capNumber := w.capNumber.getD e.capNumber }

/-- The cached records updated as a POINT_STATE is taken (R100). -/
def State.updatePoints (s : State) (w : PointWrite) (asked : PointState) : State :=
  { s with lookup := s.lookup.mapPoints w.bucket w.slot (w.onPoint asked) }

/-- A POINT_STATE merges into the WAITING entry of its slot (R101). -/
def State.mergeEntry (s : State) (w : PointWrite) : State :=
  { s with capture := { s.capture with writeback := s.capture.writeback.map fun e =>
      if e.bucket = w.bucket && e.slot = w.slot && e.phase = .waiting then w.onEntry e else e } }

/-- A POINT_STATE makes its own write (R101). -/
def State.ownPointWrite (s : State) (tag : Byte) (w : PointWrite) (asked : PointState) : State :=
  ((s.updatePoints w asked).keepInHand tag (.pointWrite w.bucket w.slot)).requestMgmt (.point w)

/-- A POINT_STATE that has passed its tests (R100, R101). -/
def State.takePointState (s : State) (tag : Byte) (b : Nat) (sl : Slot) (asked : PointState) : State :=
  let w := pointValues b sl asked
  if wbHas s.capture.writeback b sl .writing then s.keepInHand tag (.pointBlocked b sl asked)
  else if wbHas s.capture.writeback b sl .waiting then ((s.updatePoints w asked).mergeEntry w).giveAnswer tag 20 .ok []
  else s.ownPointWrite tag w asked

/-- POINT_STATE (R100, R101). -/
def execPointState (s : State) : Out :=
  .next (s.serve 20 anyPayload fun s r =>
    match s.pointTests r.payload, paramSlot r.payload, paramPointState r.payload with
    | none, some sl, some asked => s.takePointState r.tag (natAt 1 2 r.payload) sl asked
    | some st, _, _ => s.giveAnswer r.tag 20 st []
    | none, _, _ => s.giveAnswer r.tag 20 .badValue [])

/-- POINT_STATE_RESUME (R101): once the WRITING entry for its slot has completed, as though no entry were present. -/
def execPointStateResume (s : State) : Out :=
  .next (match s.mgmt.inHand with
    | some ⟨tag, .pointBlocked b sl asked⟩ =>
      if wbHas s.capture.writeback b sl .writing then s else s.ownPointWrite tag (pointValues b sl asked) asked
    | _ => s)

/-- The marks, head and number that an own write leaves in its slot, those kept read from table memory (R101, R135). -/
def State.pointWritten (s : State) (w : PointWrite) : Bool × Bool × Nat × Nat :=
  let addr := slotAddress s.lookup.base w.bucket w.slot
  let bs := s.readBytes addr Config.slotBytes
  (w.enabled, w.captured.getD (bitAt 2 (natAt 0 1 bs)), w.capHead.getD (natAt 24 1 bs), w.capNumber.getD (natAt 25 4 bs))

/-- An own write completed: the slot, the cached points and the walks over its bucket (R82). -/
def State.completePointWrite (s : State) (w : PointWrite) : State :=
  let v := s.pointWritten w
  let s := s.writeSlot (slotAddress s.lookup.base w.bucket w.slot) v.1 v.2.1 v.2.2.1 v.2.2.2
  { s with lookup := s.lookup.mapPoints w.bucket w.slot fun p =>
      { p with state := pointStateOf v.1 v.2.1, capHead := v.2.2.1, capNumber := v.2.2.2 } }.restartTouching
    fun b => b = w.bucket

/-- POINT_STATE_WRITE_DONE (R82, R101). -/
def execPointStateWriteDone (s : State) : Out :=
  match s.access, s.mgmt.inHand.map InHand.work with
  | some (.mgmt (.point w)), some (.pointWrite _ _) =>
    withinMemory (slotAddress s.lookup.base w.bucket w.slot) Config.slotBytes
      ((s.endAccess.completePointWrite w).answerInHand .ok [])
  | _, _ => .next s

end Sys2Proof.Machine
end

