-- ==== Sys2Proof/Machine/Control.lean ====
section
/-! DEFINITION. The control requests (R178 to R180), the soft restart (R188, R189) and the hard reset (R184). -/

namespace Sys2Proof.Machine
open Sys2Proof

/-! ### HEAD_MODE (R50, R51, R178) -/

/-- The service state lets ENABLE and DISABLE be taken (R50). -/
def State.modeTaken (s : State) : Bool := s.service = .start || s.service = .active || s.service = .hold

/-- Head n is enabled (R50). -/
def State.enableHead (s : State) (n : Head) : State :=
  let c := s.ctx.get n
  if c.state = .disabled then s.changeState n c .offline .enable else s

/-- Head n is disabled, and its trigger record becomes IDLE (R50, R120). -/
def State.disableHead (s : State) (n : Head) : State :=
  let c := s.ctx.get n
  (if c.state = .disabled then s else s.changeState n c.disable .disabled .disable).idleTrigger n

/-- A HEAD_MODE request whose head and mode are legal does its work; otherwise it is answered BAD_VALUE (R178). -/
def State.headMode (s : State) (r : Request) (work : State → Head → State) : State :=
  match paramHead r.payload with
  | none => s.giveAnswer r.tag 21 .badValue []
  | some n => if modeByte r.payload > 2 then s.giveAnswer r.tag 21 .badValue [] else work s n

/-- HEAD_MODE ENABLE (R50). -/
def execHeadModeEnable (s : State) : Out :=
  .next (s.serve 21 (headModeOf 0) fun s r => s.headMode r fun s n =>
    if s.modeTaken then (s.enableHead n).giveAnswer r.tag 21 .ok [] else s.giveAnswer r.tag 21 .wrongState [])

/-- HEAD_MODE DISABLE (R50, R120). -/
def execHeadModeDisable (s : State) : Out :=
  .next (s.serve 21 (headModeOf 1) fun s r => s.headMode r fun s n =>
    if s.modeTaken then (s.disableHead n).giveAnswer r.tag 21 .ok [] else s.giveAnswer r.tag 21 .wrongState [])

/-- The angles of an AIM: the azimuth modulo a turn, the elevation clamped (R51). -/
def paramAim (p : List Byte) : Int × Int := ((natAt 3 4 p : Int) % Config.turn, clampElevation (intAt 7 4 p))

/-- AIM is taken in ACTIVE and HOLD with the context LOST (R51). -/
def State.aimTaken (s : State) (n : Head) : Bool :=
  (s.service = .active || s.service = .hold) && (s.ctx.get n).state = .lost

/-- HEAD_MODE AIM (R51). -/
def execHeadModeAim (s : State) : Out :=
  .next (s.serve 21 (headModeOf 2) fun s r => s.headMode r fun s n =>
    if s.aimTaken n then
      (s.startSearch n (s.ctx.get n) (paramAim r.payload).1 (paramAim r.payload).2 true .aim).giveAnswer r.tag 21 .ok []
    else s.giveAnswer r.tag 21 .wrongState [])

/-! ### CLEAR_FAULT (R178, R183) -/

/-- CLEAR_FAULT (R183). -/
def execClearFault (s : State) : Out :=
  .next (s.serve 22 anyPayload fun s r =>
    match paramSubject r.payload with
    | none => s.giveAnswer r.tag 22 .badValue []
    | some k => (s.setFault k FaultRecord.empty).giveAnswer r.tag 22 .ok [])

/-! ### SET_SERVICE (R179) -/

/-- The service state replaced. -/
def State.setService (s : State) (v : ServiceState) : State := { s with service := v }

/-- A SET_SERVICE whose target is legal does its work; otherwise it is answered BAD_VALUE (R179). -/
def State.setTarget (s : State) (r : Request) (work : State → State) : State :=
  if targetByte r.payload > 3 then s.giveAnswer r.tag 23 .badValue [] else work s

/-- Memory initialization begins (R130, R184). -/
def State.beginInit (s : State) : State :=
  { s.setService .init with mem := { s.mem with
      state := .initializing, initPhase := some (.settle (s.time.timebase + Config.settlePhaseTicks)) } }

/-- SET_SERVICE ACTIVE (R179, R184, R185). -/
def execSetServiceActive (s : State) : Out :=
  .next (s.serve 23 (serviceTarget 0) fun s r => s.setTarget r fun s =>
    match s.service with
    | .start => s.beginInit.keepInHand r.tag .setActive
    | .active | .hold => (s.setService .active).giveAnswer r.tag 23 .ok []
    | .init | .quiescing | .standby | .waking => s.giveAnswer r.tag 23 .wrongState [])

/-- The entry to HOLD: every settle queue cleared and every waiting attempt dropped (R89, R92, R185). -/
def State.enterHold (s : State) : State := (s.setService .hold).clearAllSettle.dropAttempts fun _ => true

/-- SET_SERVICE HOLD (R179, R185). -/
def execSetServiceHold (s : State) : Out :=
  .next (s.serve 23 (serviceTarget 1) fun s r => s.setTarget r fun s =>
    match s.service with
    | .active => s.enterHold.giveAnswer r.tag 23 .ok []
    | .hold => s.giveAnswer r.tag 23 .ok []
    | .start | .init | .quiescing | .standby | .waking => s.giveAnswer r.tag 23 .wrongState [])

/-- The quiesce mark set or cleared (R140). -/
def State.setQuiesce (s : State) (v : Bool) : State := { s with mem := { s.mem with quiesce := v } }

/-- The entry to QUIESCING: contexts parked, settle queues cleared, waiting attempts dropped, pending starts finished late,
the quiesce mark set (R53, R84, R89, R92, R186). -/
def State.enterQuiescing (s : State) : State :=
  let s := (allHeads.foldl State.parkHead (s.setService .quiescing)).clearAllSettle.dropAttempts fun _ => true
  (s.finishAllLate WaitingSample.pendingStart).setQuiesce true

/-- SET_SERVICE STANDBY (R179, R186). -/
def execSetServiceStandby (s : State) : Out :=
  .next (s.serve 23 (serviceTarget 2) fun s r => s.setTarget r fun s =>
    match s.service with
    | .active | .hold => s.enterQuiescing.keepInHand r.tag .setStandby
    | .start | .init | .quiescing | .standby | .waking => s.giveAnswer r.tag 23 .wrongState [])

/-- The exit from self-refresh begins (R141, R187). -/
def State.beginWake (s : State) : State :=
  { s.setService .waking with mem := { s.mem with state := .exiting, exitBegan := some s.time.timebase } }

/-- SET_SERVICE WAKE (R179, R187). -/
def execSetServiceWake (s : State) : Out :=
  .next (s.serve 23 (serviceTarget 3) fun s r => s.setTarget r fun s =>
    match s.service with
    | .standby => s.beginWake.keepInHand r.tag .setWake
    | .start | .init | .active | .hold | .quiescing | .waking => s.giveAnswer r.tag 23 .wrongState [])

/-! ### The soft restart (R180, R188, R189) -/

/-- The drain begins: the restart mark set and pending starts finished late (R188). -/
def State.beginDrain (s : State) : State :=
  { s with restartMark := true }.finishAllLate WaitingSample.pendingStart

/-- RESTART (R180, R188). -/
def execRestart (s : State) : Out :=
  .next (s.serve 24 anyPayload fun s r =>
    if s.service = .active || s.service = .hold then s.beginDrain.keepInHand r.tag .restart
    else s.giveAnswer r.tag 24 .wrongState [])

/-- No sample waits in the lookup unit or behind an attempt. -/
def State.samplesDone (s : State) : Bool :=
  s.waiting.toList.all Option.isNone && s.capture.waiting.isEmpty && s.behind.toList.all List.isEmpty

/-- The drain of a soft restart has ended (R188; logs 26, 33). -/
def State.drained (s : State) : Bool :=
  s.restartMark && s.lookup.walks.isEmpty && s.samplesDone && s.capture.attempt.isNone && s.capture.writeback.isEmpty &&
    s.spill.writes.isEmpty && s.spill.drains.isEmpty && s.report.occupancy = 0 && s.mem.running.isNone

/-- R62's soft-restart values. -/
def Lookup.restart (l : Lookup) : Lookup :=
  { l with records := List.replicate Config.cacheRecords none, victim := 0, walks := [], rewalk := [] }

/-- R160's and R168's soft-restart values. -/
def Decimation.restart (d : Decimation) : Decimation := ⟨d.configured, d.configured, 0⟩

/-- R168's soft-restart values. -/
def Report.restart (r : Report) : Report := ⟨[], 0, none, .all none, none, r.decimation.map Decimation.restart⟩

/-- R143's soft-restart values of a head port; a frame in transmission is not cut. -/
def HeadPort.restart (p : HeadPort) : HeadPort := { p with bad := 0, forward := [], steer := none, steerTag := 0 }

/-- R143's soft-restart values of the uplink; a frame in transmission is not cut, and its buffer is emptied (log 32). -/
def Uplink.restart (u : Uplink) : Uplink :=
  { u with
    bad := 0, forward := [], requests := [], reportTag := 0, servedReport := false
    sending := u.sending.map fun t => { t with source := .detached } }

/-- The restart proper, as one change (R189). -/
def State.softReset (s : State) : State :=
  { s with
    service := .active
    restartMark := false
    headFaults := .all FaultRecord.empty
    partFault := FaultRecord.empty
    ctx := s.ctx.map Context.restart
    lookup := s.lookup.restart
    waiting := .all none
    settle := .all SettleQueue.empty
    behind := .all []
    capture := { s.capture with attempt := none, waiting := [] }
    spill := { s.spill with writes := [], drains := [] }
    headTime := s.headTime.map fun h => { h with trigger := none }
    mem := { s.mem with quiesce := false }
    report := s.report.restart
    ports := s.ports.map HeadPort.restart
    uplink := s.uplink.restart }

/-- RESTART_PROPER (R168, R180, R189). -/
def execRestartProper (s : State) : Out :=
  .next (match s.mgmt.inHand.map InHand.work with
    | some .restart => if s.drained then s.softReset.answerInHand .ok [] else s
    | _ => s)

/-! ### The hard reset (R184) -/

/-- HARD_RESET: every hard-reset value; table memory is unspecified afresh (R125), and what is not the part's own is kept
(log 31). -/
def execHardReset (s : State) : Out :=
  .next { State.reset with pending := s.pending, freeCount := s.freeCount, resetCount := s.resetCount + 1 }

end Sys2Proof.Machine
end

