-- ==== Sys2Proof/Machine/TimeEvents.lean ====
section
/-! DEFINITION. The steps that the time base and the lines bring about (Chapter 5, R34, R42 to R49): epochs, sync expiries with
their outcomes, pulses, trigger edges and reference events. A step whose condition does not hold changes nothing (log 1). -/

namespace Sys2Proof.Machine
open Sys2Proof

/-- SYNC_EPOCH (R114). -/
def execSyncEpoch (s : State) : Out := .next (if s.epochDue then s.beginEpoch else s)

/-- Head n's due expiry is taken where the condition of the step holds (R115; log 11). -/
def State.expireIf (s : State) (n : Head) (p : Bool) : State :=
  match s.expiryDue n with
  | some e => if p then s.takeExpiry n e else s
  | none => s

/-- SYNC_EXPIRY: head n's expiry, whatever comes of it (R115). -/
def execSyncExpiry (n : Head) (s : State) : Out := .next (s.expireIf n true)

/-- Head n's next expiry reaches the silence limit (R34). -/
def State.silent (s : State) (n : Head) : Bool := (s.ctx.get n).silenceTrips (s.settings.get n)

/-- Head n's next expiry runs out the interval timer in a state (R42). -/
def State.runsOutIn (s : State) (n : Head) (st : CtxState) : Bool :=
  (s.ctx.get n).state = st && !s.silent n && (s.ctx.get n).runsOut

/-- SILENCE_LIMIT: the expiry at which the silence count reaches the limit (R34). -/
def execSilenceLimit (n : Head) (s : State) : Out := .next (s.expireIf n (s.silent n))

/-- COAST_LIMIT: the expiry at which the interval timer runs out in COASTING (R44). -/
def execCoastLimit (n : Head) (s : State) : Out := .next (s.expireIf n (s.runsOutIn n .coasting))

/-- SEARCH_DWELL_END: the expiry at which the dwell runs out in SEARCHING (R47). -/
def execSearchDwellEnd (n : Head) (s : State) : Out := .next (s.expireIf n (s.runsOutIn n .searching))

/-- SETTLE_EXPIRY: the expiry at which the settle interval runs out in SETTLING (R48, R49). -/
def execSettleExpiry (n : Head) (s : State) : Out := .next (s.expireIf n (s.runsOutIn n .settling))

/-- Head n's next expiry runs out its PENDING trigger record (R121). -/
def State.triggerRunsOut (s : State) (n : Head) : Bool :=
  (s.headTime.get n).trigger.any fun r => r.periodsLeft ≤ 1

/-- TRIGGER_EXPIRED: the expiry at which a PENDING trigger record runs out (R121). -/
def execTriggerExpired (n : Head) (s : State) : Out := .next (s.expireIf n (s.triggerRunsOut n))

/-- SYNC_PULSE_END: head n's sync line goes low (R116). -/
def execSyncPulseEnd (n : Head) (s : State) : Out :=
  .next (if s.pulseOver n then s.setHeadTime n { s.headTime.get n with pulseEnd := none } else s)

/-- TRIGGER_EDGE: a rising edge on TRIG n (R119). -/
def execTriggerEdge (n : Head) (s : State) : Out := .next (if s.edgeTaken n then s.takeEdge n else s)

/-- REFERENCE_EDGE: a rising edge of the reference clock input (R110). -/
def execReferenceEdge (s : State) : Out := .next s.referenceEdge

/-- REFERENCE_TIMEOUT: twelve ticks without an edge (R110). -/
def execReferenceTimeout (s : State) : Out := .next (if s.timeoutDue then s.loseReference else s)

/-- LOCK_UP_COMPLETE: the lock-up count has reached 2^20 (R111). -/
def execLockUpComplete (s : State) : Out := .next (if s.lockUpDue then s.setTime s.time.lockUpDone else s)

end Sys2Proof.Machine
end

