-- ==== Sys2Proof/Machine/MemoryEvents.lean ====
section
/-! DEFINITION. The steps of the table memory controller and of the blocks that wait on it (Chapters 3, 4 and 6): attempts,
grants, completions, refresh, initialization and self-refresh. A step whose condition does not hold changes nothing (log 1). -/

namespace Sys2Proof.Machine
open Sys2Proof

/-! ### Captures -/

/-- CAPTURE_ATTEMPT: the first waiting attempt, once none is running (R92, R93). -/
def execCaptureAttempt (s : State) : Out :=
  .next (match s.capture.attempt, s.capture.waiting with
    | none, a :: rest => s.attempt a rest
    | _, _ => s)

/-! ### Grants and walks -/

/-- REFRESH_EXPIRY (R137). -/
def execRefreshExpiry (s : State) : Out := .next (if s.refreshDue then { s with mem := s.mem.refreshExpiry } else s)

/-- MEMORY_GRANT (R133). -/
def execMemoryGrant (s : State) : Out :=
  .next (if s.grantPoint then
      match s.granted with
      | some a => s.grant a
      | none => s
    else s)

/-- WALK_READ_DONE (R67, R136). -/
def execWalkReadDone (s : State) : Out :=
  match s.access with
  | some (.walk r) =>
    withinMemory r.addr Config.bucketBytes (s.endAccess.walkData r (s.readBytes r.addr Config.bucketBytes))
  | _ => .next s

/-- PENDING_START_RETRY: head n's lookup repeated when its walk charge is free (R66). -/
def execPendingStartRetry (n : Head) (s : State) : Out :=
  .next (match s.waiting.get n with
    | some w =>
      if w.pendingStart && s.walksStart && s.lookup.chargeFree (.head n) then (s.setWaiting n none).lookupFresh n w.sample
      else s
    | none => s)

/-- A PIN_CELL waits for the management charge (R78). -/
def State.pinWaits (s : State) : Bool :=
  match s.mgmt.inHand.map InHand.work with
  | some (.pinForCharge _) => true
  | _ => false

/-- REWALK_START: a pinned walk for the oldest key of the re-walk list (R78). -/
def execRewalkStart (s : State) : Out :=
  .next (match s.lookup.rewalk with
    | k :: rest =>
      if s.walksStart && s.lookup.chargeFree .management && !s.pinWaits then
        { s with lookup := { s.lookup with rewalk := rest } }.startWalk .management k [] true
      else s
    | [] => s)

/-! ### Write-backs (R99, R135) -/

/-- The WRITING entry of a slot. -/
def writingEntry (q : List WbEntry) (b : Nat) (sl : Slot) : Option WbEntry :=
  q.find? fun e => e.bucket = b && e.slot = sl && e.phase = .writing

/-- A write-back written and its entry gone from the queue (R99). -/
def State.completeWriteback (s : State) (e : WbEntry) : State :=
  let s := s.writeSlot (slotAddress s.lookup.base e.bucket e.slot) e.enabled e.captured e.capHead e.capNumber
  { s with capture := { s.capture with writeback := s.capture.writeback.filter fun e' =>
      !(e'.bucket = e.bucket && e'.slot = e.slot && e'.phase = .writing) } }

/-- WRITEBACK_DONE (R99, R136). -/
def execWritebackDone (s : State) : Out :=
  match s.access with
  | some (.writeback b sl) =>
    match writingEntry s.capture.writeback b sl with
    | some e => withinMemory (slotAddress s.lookup.base b sl) Config.slotBytes (s.endAccess.completeWriteback e)
    | none => .next s.endAccess
  | _ => .next s

/-! ### The spill ring (R106, R107) -/

/-- The outstanding spill write of a position. -/
def spillWriteAt (ws : List SpillWrite) (pos : Nat) : Option SpillWrite := ws.find? fun w => w.pos = pos

/-- A spill record written: the payload and 22 bytes of 0 (R106). -/
def State.completeSpillWrite (s : State) (w : SpillWrite) : State :=
  let s := s.writeBytes (spillAddress s.spill.base w.pos) (padTo Config.bucketBytes w.data)
  { s with spill := { s.spill with writes := s.spill.writes.filter fun w' => w'.pos ≠ w.pos } }

/-- SPILL_WRITE_DONE (R106). -/
def execSpillWriteDone (s : State) : Out :=
  match s.access with
  | some (.spill (.write pos)) =>
    match spillWriteAt s.spill.writes pos with
    | some w => withinMemory (spillAddress s.spill.base pos) Config.bucketBytes (s.endAccess.completeSpillWrite w)
    | none => .next s.endAccess
  | _ => .next s

/-- The position of the oldest held record that has no drain read outstanding (R107). -/
def Spill.nextDrain (sp : Spill) : Nat := (sp.readPos + sp.drains.length) % Config.ringPositions

/-- A drain read could start but for the place in the report queue (R107, R159). A drain whose data has come keeps its
position and its reservation until its frame enters. -/
def State.drainWaits (s : State) : Bool :=
  (s.service = .active || s.service = .hold) && !s.restartMark && s.spill.drains.length < s.spill.count &&
    (spillWriteAt s.spill.writes s.spill.nextDrain).isNone && drainsOutstanding s.spill < Config.drainReadLimit

/-- A drain read started, with its place reserved (R107). -/
def State.startDrain (s : State) : State :=
  let pos := s.spill.nextDrain
  let s := { s with spill := { s.spill with drains := s.spill.drains ++ [(⟨pos, none⟩ : Drain)] } }.reserve
  s.requestSpill (.read pos)

/-- DRAIN_READ_START: after a held answer, before the event slots (R107, R159). -/
def execDrainReadStart (s : State) : Out :=
  .next (if s.drainWaits && s.mgmt.held.isNone && s.report.placeFree then s.startDrain else s)

/-- The data of a drain read joins its drain. -/
def drainData (pos : Nat) (bs : List Byte) (ds : List Drain) : List Drain :=
  ds.map fun d => if d.pos = pos then { d with data := some bs } else d

/-- The frame of the oldest drain enters its reserved place, and its record leaves the ring (R107). -/
def State.releaseDrain (s : State) (bs : List Byte) (rest : List Drain) : State :=
  { s with spill := { s.spill with
      drains := rest
      readPos := (s.spill.readPos + 1) % Config.ringPositions
      count := s.spill.count - 1 } }.enqueueReserved ⟨.capture, field 0 42 bs⟩

/-- Every drain whose data has come enters, oldest first, up to one whose read is outstanding (R107). -/
def State.releaseDrains (s : State) : List Drain → State
  | ⟨_, some bs⟩ :: rest => (s.releaseDrain bs rest).releaseDrains rest
  | _ => s

/-- A drain read completed (R107). -/
def State.completeDrainRead (s : State) (pos : Nat) (bs : List Byte) : State :=
  let s := { s with spill := { s.spill with drains := drainData pos bs s.spill.drains } }
  s.releaseDrains s.spill.drains

/-- DRAIN_READ_DONE (R107). -/
def execDrainReadDone (s : State) : Out :=
  match s.access with
  | some (.spill (.read pos)) =>
    let addr := spillAddress s.spill.base pos
    withinMemory addr Config.bucketBytes (s.endAccess.completeDrainRead pos (s.readBytes addr Config.bucketBytes))
  | _ => .next s

/-! ### Refresh, initialization and self-refresh (R130, R137, R140, R141) -/

/-- Every bank's row closed (R128). -/
def State.closeRows (s : State) : State := { s with mem := { s.mem with openRows := closedRows } }

/-- REFRESH_DONE (R137). -/
def execRefreshDone (s : State) : Out :=
  .next (match s.access with
    | some .refresh => s.endAccess.closeRows
    | _ => s)

/-- The phase of initialization replaced. -/
def State.setInitPhase (s : State) (p : Option InitPhase) : State := { s with mem := { s.mem with initPhase := p } }

/-- The settle phase of initialization is over (R130). -/
def State.settleOver (s : State) : Bool :=
  s.mem.state = .initializing &&
    match s.mem.initPhase with
    | some (.settle ends) => ends ≤ s.time.timebase
    | _ => false

/-- INIT_SETTLE_END: the banks closed, the mode loaded, the first refreshes begun (R130). -/
def execInitSettleEnd (s : State) : Out :=
  .next (if s.settleOver then s.closeRows.setInitPhase (some (.refreshing Config.firstRefreshes s.time.timebase)) else s)

/-- The memory becomes READY with refreshes owed, and the service state ACTIVE (R130, R141, R184, R187). -/
def State.becomeActive (s : State) (owed : Nat) : State :=
  { s.setService .active with mem := s.mem.becomeReady s.time.timebase owed }

/-- INIT_REFRESH_DONE: a first refresh has ended; after the eighth, READY and ACTIVE (R130, R184). -/
def execInitRefreshDone (s : State) : Out :=
  .next (match s.mem.state, s.mem.initPhase with
    | .initializing, some (.refreshing left _) =>
      if left ≤ 1 then (s.becomeActive 0).answerInHand .ok []
      else s.setInitPhase (some (.refreshing (left - 1) s.time.timebase))
    | _, _ => s)

/-- The conditions of R140 hold together, with nothing owed and no access in progress. -/
def State.quiesced (s : State) : Bool :=
  s.mem.quiesce && s.mem.state = .ready && s.capture.attempt.isNone && s.capture.waiting.isEmpty &&
    s.lookup.walks.isEmpty && s.capture.writeback.isEmpty && s.spill.writes.isEmpty && s.spill.drains.isEmpty &&
    s.mem.mgmt.isNone && s.mem.owed = 0 && s.mem.running.isNone

/-- The memory enters self-refresh, and the service state becomes STANDBY (R140, R186). -/
def State.enterSelfRefresh (s : State) : State :=
  { s.setService .standby with mem := { s.mem with
      state := .selfRefresh, openRows := closedRows, nextRefresh := none, quiesce := false } }

/-- SELF_REFRESH_ENTRY (R140). -/
def execSelfRefreshEntry (s : State) : Out :=
  .next (if s.quiesced then s.enterSelfRefresh.answerInHand .ok [] else s)

/-- SELF_REFRESH_EXIT_DONE: READY with one refresh owed, ACTIVE, and every PARKED context LOST (R53, R141, R187). -/
def execSelfRefreshExitDone (s : State) : Out :=
  .next (if s.mem.state = .exiting then
      (allHeads.foldl State.wakeHead (s.becomeActive 1)).answerInHand .ok []
    else s)

end Sys2Proof.Machine
end

