-- ==== Sys2Proof/Machine/ReportEvents.lean ====
section
/-! DEFINITION. The steps of the report queue's arbiter (R159, R165, R167) and the ends of transmissions (R149 to R151). A step
whose condition does not hold changes nothing (log 1). -/

namespace Sys2Proof.Machine
open Sys2Proof

/-! ### The arbiter -/

/-- The slot after a slot, in visiting order (R165). -/
def slotAfter : Option Head → Option Head
  | none => some .h0
  | some .h0 => some .h1
  | some .h1 => some .h2
  | some .h2 => some .h3
  | some .h3 => none

/-- The five slots in visiting order from a slot on (R165). -/
def visitingOrder (k : Option Head) : List (Option Head) :=
  let a := slotAfter k
  let b := slotAfter a
  let c := slotAfter b
  [k, a, b, c, slotAfter c]

/-- The first slot that holds an event, from the visiting pointer on, with its event (R165). -/
def Report.nextSlot (r : Report) : Option (Option Head × HeldEvent) :=
  (visitingOrder r.visiting).findSome? fun k => (r.slot k).map fun h => (k, h)

/-- A slot's event taken into the report queue (R165). Where the entry itself makes the crossing from 35 to 36, its DECIMATION
event finds the part slot emptied already: taking first (DESIGN CHOICE, log 39). -/
def State.takeSlot (s : State) (k : Option Head) (h : HeldEvent) : State :=
  { s with report := { s.report.setSlot k none with visiting := slotAfter k } }.enqueue ⟨.event, eventPayload k h⟩

/-- EVENT_SLOT_TAKEN: after a held answer and a drain read, and not in the drain of a soft restart (R159, R165, R168). -/
def execEventSlotTaken (s : State) : Out :=
  .next (if s.report.placeFree && s.mgmt.held.isNone && !s.drainWaits && !s.restartMark then
      match s.report.nextSlot with
      | some (k, h) => s.takeSlot k h
      | none => s
    else s)

/-- HELD_ANSWER_ENTRY: the held answer takes the first free place (R159, R167, R168). -/
def execHeldAnswerEntry (s : State) : Out :=
  .next (match s.mgmt.held with
    | some f =>
      if s.report.placeFree && !s.restartMark then { s with mgmt := { s.mgmt with held := none } }.enqueue f else s
    | none => s)

/-! ### Transmissions -/

/-- The frame sent leaves its source (R151, R158). -/
def State.leaveSource (s : State) : TxSource → State
  | .report => { s with report := { s.report with queue := s.report.queue.tail } }.afterFall
  | .forward => { s with uplink := { s.uplink with forward := s.uplink.forward.tail } }
  | .detached => s

/-- UPLINK_TX_END (R149, R151). -/
def execUplinkTxEnd (s : State) : Out :=
  .next (match s.uplink.sending with
    | some t => ({ s with uplink := { s.uplink with sending := none } }.leaveSource t.source).kickUplink
    | none => s)

/-- HEAD_TX_END (R149, R150). The frame sent is taken out of no buffer: a Head Command left its buffer when its
transmission began (DESIGN CHOICE, log 15). -/
def execHeadTxEnd (n : Head) (s : State) : Out :=
  .next (match (s.ports.get n).sending with
    | some _ => (s.setPort n { s.ports.get n with sending := none }).kickHead n
    | none => s)

end Sys2Proof.Machine
end

