-- ==== Sys2Proof/Machine/Dispatch.lean ====
section
/-! DEFINITION. One arm for each command, each one call of its meaning. -/

namespace Sys2Proof.Machine
open Sys2Proof

/-- What a command does to everything but the queue. -/
def exec (i : Instr) (s : State) : Host.Outcome State Fault Refusal :=
  match i with
  | .hardReset => Sys2Proof.Machine.execHardReset s
  | .badFrame p bytes => Sys2Proof.Machine.execBadFrame p bytes s
  | .sampleFrame n bytes => Sys2Proof.Machine.execSampleFrame n bytes s
  | .headStatusFrame n bytes => Sys2Proof.Machine.execHeadStatusFrame n bytes s
  | .headCommandFrame bytes => Sys2Proof.Machine.execHeadCommandFrame bytes s
  | .managementRequestFrame bytes => Sys2Proof.Machine.execManagementRequestFrame bytes s
  | .unknownKindRequest => Sys2Proof.Machine.execUnknownKindRequest s
  | .readPart => Sys2Proof.Machine.execReadPart s
  | .readHead => Sys2Proof.Machine.execReadHead s
  | .readTime => Sys2Proof.Machine.execReadTime s
  | .readCell => Sys2Proof.Machine.execReadCell s
  | .memRead => Sys2Proof.Machine.execMemRead s
  | .readFault => Sys2Proof.Machine.execReadFault s
  | .syncConfig => Sys2Proof.Machine.execSyncConfig s
  | .headConfig => Sys2Proof.Machine.execHeadConfig s
  | .writeComp => Sys2Proof.Machine.execWriteComp s
  | .writePose => Sys2Proof.Machine.execWritePose s
  | .tableConfig => Sys2Proof.Machine.execTableConfig s
  | .tableConfigApply => Sys2Proof.Machine.execTableConfigApply s
  | .spillConfig => Sys2Proof.Machine.execSpillConfig s
  | .memConfig => Sys2Proof.Machine.execMemConfig s
  | .setArbiter => Sys2Proof.Machine.execSetArbiter s
  | .memWrite => Sys2Proof.Machine.execMemWrite s
  | .memWriteResume => Sys2Proof.Machine.execMemWriteResume s
  | .purgeCell => Sys2Proof.Machine.execPurgeCell s
  | .purgeAll => Sys2Proof.Machine.execPurgeAll s
  | .pinCell => Sys2Proof.Machine.execPinCell s
  | .pinCellResume => Sys2Proof.Machine.execPinCellResume s
  | .unpinCell => Sys2Proof.Machine.execUnpinCell s
  | .pointState => Sys2Proof.Machine.execPointState s
  | .pointStateResume => Sys2Proof.Machine.execPointStateResume s
  | .headModeEnable => Sys2Proof.Machine.execHeadModeEnable s
  | .headModeDisable => Sys2Proof.Machine.execHeadModeDisable s
  | .headModeAim => Sys2Proof.Machine.execHeadModeAim s
  | .clearFault => Sys2Proof.Machine.execClearFault s
  | .setServiceActive => Sys2Proof.Machine.execSetServiceActive s
  | .setServiceHold => Sys2Proof.Machine.execSetServiceHold s
  | .setServiceStandby => Sys2Proof.Machine.execSetServiceStandby s
  | .setServiceWake => Sys2Proof.Machine.execSetServiceWake s
  | .restart => Sys2Proof.Machine.execRestart s
  | .restartProper => Sys2Proof.Machine.execRestartProper s
  | .syncEpoch => Sys2Proof.Machine.execSyncEpoch s
  | .syncExpiry n => Sys2Proof.Machine.execSyncExpiry n s
  | .silenceLimit n => Sys2Proof.Machine.execSilenceLimit n s
  | .coastLimit n => Sys2Proof.Machine.execCoastLimit n s
  | .searchDwellEnd n => Sys2Proof.Machine.execSearchDwellEnd n s
  | .settleExpiry n => Sys2Proof.Machine.execSettleExpiry n s
  | .triggerExpired n => Sys2Proof.Machine.execTriggerExpired n s
  | .syncPulseEnd n => Sys2Proof.Machine.execSyncPulseEnd n s
  | .triggerEdge n => Sys2Proof.Machine.execTriggerEdge n s
  | .referenceEdge => Sys2Proof.Machine.execReferenceEdge s
  | .referenceTimeout => Sys2Proof.Machine.execReferenceTimeout s
  | .lockUpComplete => Sys2Proof.Machine.execLockUpComplete s
  | .captureAttempt => Sys2Proof.Machine.execCaptureAttempt s
  | .refreshExpiry => Sys2Proof.Machine.execRefreshExpiry s
  | .memoryGrant => Sys2Proof.Machine.execMemoryGrant s
  | .walkReadDone => Sys2Proof.Machine.execWalkReadDone s
  | .pendingStartRetry n => Sys2Proof.Machine.execPendingStartRetry n s
  | .rewalkStart => Sys2Proof.Machine.execRewalkStart s
  | .writebackDone => Sys2Proof.Machine.execWritebackDone s
  | .spillWriteDone => Sys2Proof.Machine.execSpillWriteDone s
  | .drainReadStart => Sys2Proof.Machine.execDrainReadStart s
  | .drainReadDone => Sys2Proof.Machine.execDrainReadDone s
  | .memReadDone => Sys2Proof.Machine.execMemReadDone s
  | .memWriteDone => Sys2Proof.Machine.execMemWriteDone s
  | .pointStateWriteDone => Sys2Proof.Machine.execPointStateWriteDone s
  | .refreshDone => Sys2Proof.Machine.execRefreshDone s
  | .initSettleEnd => Sys2Proof.Machine.execInitSettleEnd s
  | .initRefreshDone => Sys2Proof.Machine.execInitRefreshDone s
  | .selfRefreshEntry => Sys2Proof.Machine.execSelfRefreshEntry s
  | .selfRefreshExitDone => Sys2Proof.Machine.execSelfRefreshExitDone s
  | .eventSlotTaken => Sys2Proof.Machine.execEventSlotTaken s
  | .heldAnswerEntry => Sys2Proof.Machine.execHeldAnswerEntry s
  | .uplinkTxEnd => Sys2Proof.Machine.execUplinkTxEnd s
  | .headTxEnd n => Sys2Proof.Machine.execHeadTxEnd n s
  | .discardedGoodFrame p bytes => Sys2Proof.Machine.execDiscardedGoodFrame p bytes s

end Sys2Proof.Machine
end

