-- ==== Sys2Proof/Machine/Idle.lean ====
section
/-! DEFINITION. The part with no command waiting: the steps of its own that are due, and the tick (logs 2, 3, 4). -/

namespace Sys2Proof.Machine
open Sys2Proof

/-- The command that takes a request, by its kind, and by its mode or target where rows share a kind (R156; log 14). -/
def requestRow (p : List Byte) : Instr :=
  match requestKind p with
  | some 1 => .readPart
  | some 2 => .readHead
  | some 3 => .readTime
  | some 4 => .readCell
  | some 5 => .memRead
  | some 6 => .readFault
  | some 7 => .syncConfig
  | some 8 => .headConfig
  | some 9 => .writeComp
  | some 10 => .writePose
  | some 11 => .tableConfig
  | some 12 => .spillConfig
  | some 13 => .memConfig
  | some 14 => .setArbiter
  | some 15 => .memWrite
  | some 16 => .purgeCell
  | some 17 => .purgeAll
  | some 18 => .pinCell
  | some 19 => .unpinCell
  | some 20 => .pointState
  | some 21 =>
    match modeByte p with
    | 1 => .headModeDisable
    | 2 => .headModeAim
    | _ => .headModeEnable
  | some 22 => .clearFault
  | some 23 =>
    match targetByte p with
    | 1 => .setServiceHold
    | 2 => .setServiceStandby
    | 3 => .setServiceWake
    | _ => .setServiceActive
  | some 24 => .restart
  | _ => .unknownKindRequest

/-- A command, where it is due. -/
def dueIf (p : Bool) (c : Instr) : List Instr := if p then [c] else []

/-- A duration in ns that began at a time of the timebase is over (log 3). -/
def State.elapsed (s : State) (began duration : Nat) : Bool :=
  Config.tickNs * (s.time.timebase - began) ≥ duration

/-- The step that completes an access (R136). -/
def completionOf : Access → Instr
  | .walk _ => .walkReadDone
  | .writeback _ _ => .writebackDone
  | .spill (.write _) => .spillWriteDone
  | .spill (.read _) => .drainReadDone
  | .mgmt (.read _ _) => .memReadDone
  | .mgmt (.write _ _) => .memWriteDone
  | .mgmt (.point _) => .pointStateWriteDone
  | .refresh => .refreshDone

/-- The time base's steps that are due (Chapter 5, R137). -/
def State.timeDue (s : State) : List Instr :=
  dueIf s.epochDue .syncEpoch ++
    allHeads.flatMap (fun n => dueIf (s.expiryDue n).isSome (.syncExpiry n) ++ dueIf (s.pulseOver n) (.syncPulseEnd n)) ++
    dueIf s.timeoutDue .referenceTimeout ++ dueIf s.lockUpDue .lockUpComplete ++ dueIf s.refreshDue .refreshExpiry

/-- The management unit's step that is due: a request taken, or the one in hand going on (R58, R66, R101, R102, R169, R189). -/
def State.managementDue (s : State) : List Instr :=
  match s.mgmt.inHand.map InHand.work with
  | none =>
    match s.mgmt.held, s.uplink.requests with
    | none, r :: _ => [requestRow r.payload]
    | _, _ => []
  | some (.tableConfig _ _ _) => dueIf s.capture.writeback.isEmpty .tableConfigApply
  | some (.pinForCharge _) => dueIf (s.lookup.chargeFree .management) .pinCellResume
  | some (.pointBlocked b sl _) => dueIf (!wbHas s.capture.writeback b sl .writing) .pointStateResume
  | some (.memWriteBlocked addr data) => dueIf (!s.writebackOver addr data.length) .memWriteResume
  | some .restart => dueIf s.drained .restartProper
  | some (.pinForWalk _) | some (.pointWrite _ _) | some (.memWrite _ _) | some (.memRead _ _) => []
  | some .setActive | some .setStandby | some .setWake => []

/-- The access in progress, when its duration is over (R129). -/
def State.completionDue (s : State) : List Instr :=
  match s.mem.running with
  | some r => dueIf (s.elapsed r.granted r.duration) (completionOf r.access)
  | none => []

/-- A head's pending start may be retried (R66). -/
def State.retryDue (s : State) (n : Head) : Bool :=
  (s.waiting.get n).any WaitingSample.pendingStart && s.walksStart && s.lookup.chargeFree (.head n)

/-- The re-walk list may start a walk (R78). -/
def State.rewalkDue (s : State) : Bool :=
  !s.lookup.rewalk.isEmpty && s.walksStart && s.lookup.chargeFree .management && !s.pinWaits

/-- A first refresh of initialization is over (R130). -/
def State.firstRefreshOver (s : State) : Bool :=
  s.mem.state = .initializing &&
    match s.mem.initPhase with
    | some (.refreshing _ began) => s.elapsed began s.mem.timing.refresh
    | _ => false

/-- The exit time has passed (R141). -/
def State.exitOver (s : State) : Bool :=
  s.mem.state = .exiting && s.mem.exitBegan.any fun b => s.elapsed b s.mem.timing.exit

/-- The lookup, capture and memory steps that are due (Chapters 3, 4 and 6). -/
def State.memoryDue (s : State) : List Instr :=
  dueIf (s.capture.attempt.isNone && !s.capture.waiting.isEmpty) .captureAttempt ++
    dueIf (s.grantPoint && s.granted.isSome) .memoryGrant ++ s.completionDue ++
    allHeads.flatMap (fun n => dueIf (s.retryDue n) (.pendingStartRetry n)) ++ dueIf s.rewalkDue .rewalkStart ++
    dueIf s.settleOver .initSettleEnd ++ dueIf s.firstRefreshOver .initRefreshDone ++
    dueIf s.quiesced .selfRefreshEntry ++ dueIf s.exitOver .selfRefreshExitDone

/-- The arbiter's steps that are due (R159). -/
def State.arbiterDue (s : State) : List Instr :=
  dueIf (s.mgmt.held.isSome && s.report.placeFree && !s.restartMark) .heldAnswerEntry ++
    dueIf (s.drainWaits && s.mgmt.held.isNone && s.report.placeFree) .drainReadStart ++
    dueIf (s.report.placeFree && s.mgmt.held.isNone && !s.drainWaits && !s.restartMark && s.report.nextSlot.isSome)
      .eventSlotTaken

/-- The part's own steps that are due. The ends of transmissions are not among them: the line rate is not given (log 4). -/
def State.due (s : State) : List Instr := s.timeDue ++ s.managementDue ++ s.memoryDue ++ s.arbiterDue

/-- A step with no command waiting: a due step of the part's own, any one of several, and a tick when none is due (log 2). -/
def State.idle (s : State) : Out :=
  match s.due with
  | [] => .next s.tick
  | [c] => exec c s
  | c :: d :: rest =>
    exec ((c :: d :: rest).getD (Config.freeChoice s.freeCount % (rest.length + 2)) c)
      { s with freeCount := s.freeCount + 1 }

end Sys2Proof.Machine
end

