-- ==== Sys2Proof/Safety.lean ====
section
/-! DEFINITION. What a safe state is, in the terms the claims use: table memory in canonical form, the report queue and every
buffer within its places, every setting within its range, and a reference state that R112 lists. -/

namespace Sys2Proof.Safety
open Sys2Proof Sys2Proof.Machine

/-- A value lies in a range. -/
def within (lo hi v : Nat) : Bool := lo ≤ v && v ≤ hi

/-- Three values in the signed range of k bits. -/
def signedVec (k : Nat) (v : Vec3) : Bool :=
  let m : Int := ((2 ^ (k - 1) : Nat) : Int)
  (-m ≤ v.x && v.x < m) && (-m ≤ v.y && v.y < m) && (-m ≤ v.z && v.z < m)

/-- Table memory stands in its one canonical form. -/
def memoryCanonical (s : State) : Bool := Memory.wf s.cells

/-- The report queue holds at most 48 frames and reserved places, of which at most 40 are Position frames, and each reserved
place belongs to a drain read (R158, R166). -/
def reportBounded (s : State) : Bool :=
  s.report.reserved == s.spill.drains.length && s.report.occupancy ≤ Config.queuePlaces &&
    s.report.posCount ≤ Config.positionPlaces

/-- A head context's counts, with the settings that load them: timer, silence count, anchor attempts (R29, R30, R34, R39,
R45). -/
def contextBounded (c : Context) (t : TrackSettings) : Bool :=
  c.timer ≤ 512 && c.silence ≤ 255 && c.attempts ≤ 3 && c.search.all (fun q => q.dwell ≤ 16) && t.coastLimit ≤ 255 &&
    t.searchDwell ≤ 16 && t.silenceLimit ≤ 255

/-- A head's decimation items: none above 64, and the count below 64 (R160 to R163). -/
def decimationBounded (d : Decimation) : Bool := d.configured ≤ 64 && d.effective ≤ 64 && d.count ≤ 63

/-- A head's sync history, trigger window and the periods left of its trigger record (R117, R118). -/
def headTimeBounded (h : HeadTime) : Bool :=
  h.history.length ≤ Config.historyPlaces && h.window ≤ 4095 && h.trigger.all (fun r => r.periodsLeft ≤ 4095)

/-- A fault record whose kinds have codes from lo to hi: its further kinds in increasing order of code, each once, and none
without a first fault (R155, R181, R182). -/
def faultsLegal (lo hi : Nat) (f : FaultRecord) : Bool :=
  f.first.all (fun x => within lo hi x.kind.code) && f.further.all (fun k => within lo hi k.code) &&
    decide ((f.further.map FaultKind.code).Pairwise (· < ·)) && f.further.length ≤ hi + 1 - lo &&
    (f.first.isSome || f.further.isEmpty)

/-- One head's buffers and counts within their places (R29, R85, R117, R118, R143, R160, R181). -/
def headBuffersBounded (s : State) (n : Head) : Bool :=
  (s.ports.get n).forward.length ≤ Config.forwardPlaces && (s.ports.get n).bad ≤ 65535 &&
    (s.ports.get n).steerTag < 256 && (s.settle.get n).entries.length ≤ Config.settlePlaces &&
    headTimeBounded (s.headTime.get n) && contextBounded (s.ctx.get n) (s.settings.get n) &&
    decimationBounded (s.report.decimation.get n) && faultsLegal 1 8 (s.headFaults.get n)

/-- A cell record lists at most 4 visited buckets and 4 points (R61). -/
def recordBounded (r : CellRecord) : Bool :=
  r.visited.length ≤ Config.walkBuckets && r.points.length ≤ Config.walkMatches

/-- A walk that goes on has read at most 3 buckets, and has at most 4 matches (R68, R69). -/
def walkBounded (w : Walk) : Bool := w.visited.length < Config.walkBuckets && w.matched.length ≤ Config.walkMatches

/-- The lookup unit's 32 records, its walks and its victim pointer (R61, R62, R68, R69). -/
def lookupBounded (l : Lookup) : Bool :=
  l.records.length == Config.cacheRecords && l.records.all (fun r => r.all recordBounded) && l.walks.all walkBounded &&
    l.victim < Config.cacheRecords

/-- The spill ring's positions and count, its outstanding writes and drain reads (R103, R106, R107; log 27 for the reads
counted). -/
def spillBounded (sp : Spill) : Bool :=
  sp.count ≤ Config.ringPositions && sp.writes.length ≤ Config.spillWriteLimit &&
    drainsOutstanding sp ≤ Config.drainReadLimit && sp.readPos < Config.ringPositions &&
    sp.writePos < Config.ringPositions

/-- Buffers, lists and counts within their places (R61, R62, R85, R99, R103, R106, R107, R111, R117, R125, R143, R181). The
queues of the WALK and SPILL requesters (R132) are not among them. -/
def buffersBounded (s : State) : Bool :=
  allHeads.all (headBuffersBounded s) && s.uplink.forward.length ≤ Config.forwardPlaces &&
    s.uplink.requests.length ≤ Config.requestPlaces && s.uplink.bad ≤ 65535 && s.uplink.reportTag < 256 &&
    s.capture.writeback.length ≤ Config.writebackPlaces && s.capture.nextNumber.all (within 1 4294967295) &&
    lookupBounded s.lookup && spillBounded s.spill && s.mem.owed ≤ Config.owedLimit &&
    s.time.lockUp ≤ Config.lockUpTicks && faultsLegal 16 19 s.partFault

/-- A compensation table of 256 signed 16-bit entries (R1). -/
def compLegal (t : List Int) : Bool := t.length == 256 && t.all (fun e => -32768 ≤ e && e ≤ 32767)

/-- A head's measurement settings: compensation, count scale, deadband, distance max and pose (R1, R2, R7, R21). -/
def measureLegal (m : Measure) : Bool :=
  compLegal m.compAz && compLegal m.compEl && within 1 4294967295 m.countScale && within 0 15 m.deadband &&
    within 1000000 120000000 m.distanceMax && signedVec 32 m.rotation.row1 && signedVec 32 m.rotation.row2 &&
    signedVec 32 m.rotation.row3 && signedVec 32 m.translation && m.poseGen < 65536

/-- One head's settings within their ranges (R1, R2, R30, R113, R118, R160). -/
def headSettingsLegal (s : State) (n : Head) : Bool :=
  let t := s.settings.get n
  let d := s.report.decimation.get n
  measureLegal (s.measure.get n) && within 1 255 t.threshold && within 1 255 t.coastLimit &&
    within 0 3 t.settleSelect && within 1 65535 t.searchStep && within 1 32 t.searchRings && within 1 16 t.searchDwell && within 1 1000000 t.maxRate && within 1 65535 t.slipLimit &&
    within 1 255 t.silenceLimit && within 1 64 d.configured && within 1 64 d.effective && d.configured ≤ d.effective &&
    within 1 4095 (s.headTime.get n).window && (s.headTime.get n).phase < 4294967296 &&
    (s.headTime.get n).effPhase < s.time.period

/-- The timing set within its ranges (R127). -/
def timingLegal (t : Timing) : Bool :=
  within 10 60 t.activate && within 10 60 t.precharge && within 10 80 t.access && within 60 350 t.refresh &&
    within 100 1000 t.exit

/-- A table configuration: a legal shift and bucket count, on a boundary of its size, inside the memory (R57). -/
def tableLegal (base count shift : Nat) : Bool :=
  within 16 22 shift && [256, 512, 1024, 2048, 4096, 8192, 16384, 32768, 65536].contains count &&
    base % (count * 64) == 0 && base + count * 64 ≤ Config.memorySize

/-- The table configuration in force, and one that waits in hand to be applied, are legal (R57, R58). -/
def tablesLegal (s : State) : Bool :=
  tableLegal s.lookup.base s.lookup.bucketCount s.lookup.shift &&
    match s.mgmt.inHand.map InHand.work with
    | some (.tableConfig base count shift) => tableLegal base count shift
    | _ => true

/-- A pending sync configuration (R113). -/
def syncLegal (c : SyncConfig) : Bool := within 20000 1000000 c.period && c.phases.toList.all (fun p => p < 4294967296)

/-- Every setting within its range (R1, R30, R57, R104, R113, R118, R126, R127, R160). -/
def settingsLegal (s : State) : Bool :=
  allHeads.all (headSettingsLegal s) && timingLegal s.mem.timing && within 1 64 s.mem.refreshInterval &&
    within 20000 1000000 s.time.period && s.time.pendingSync.all syncLegal && s.time.syncIndex < 65536 &&
    tablesLegal s && s.spill.base % Config.ringBytes == 0 && s.spill.base + Config.ringBytes ≤ Config.memorySize

/-- The reference state and the once-locked mark are one of the pairs R112 lists. -/
def referenceLegal (s : State) : Bool :=
  match s.time.refState with
  | .locked | .holdover => s.time.onceLocked
  | .acquiring => true
  | .free => !s.time.onceLocked

/-- The keys of the valid cell records (R61). -/
def validKeys (l : Lookup) : List CellKey := l.records.filterMap fun r => r.map CellRecord.key

/-- The keys of the walks that are not discarded (R63, R73). -/
def liveKeys (l : Lookup) : List CellKey := (l.walks.filter fun w => !w.discarded).map Walk.key

/-- No two valid records, walks in flight or listed keys share a cell key, no two walks share a charge, and at most 24 pins
are held (R61, R63, R66, R75, R78). -/
def cacheConsistent (s : State) : Bool :=
  decide (validKeys s.lookup ++ liveKeys s.lookup ++ s.lookup.rewalk).Nodup &&
    decide (s.lookup.walks.map Walk.charge).Nodup && s.lookup.pinCount ≤ Config.pinLimit

/-- A safe state. -/
def safe (s : State) : Bool :=
  memoryCanonical s && reportBounded s && buffersBounded s && settingsLegal s && referenceLegal s && cacheConsistent s

/-! ### Events and crossings -/

/-- The report unit once an event has been placed in a subject's slot, superseding what the slot held (R164). -/
def withEvent (r : Report) (k : Option Head) (e : Event) : Report :=
  match k with
  | none => { r with partSlot := some ⟨e, r.partSlot.isSome⟩ }
  | some n => { r with headSlots := r.headSlots.set n (some ⟨e, (r.headSlots.get n).isSome⟩) }

/-- The report unit once its occupancy has risen by one: at 36 every effective decimation is doubled, up to 64, with a
DECIMATION event where one of them changes (R162). -/
def risen (r : Report) : Report :=
  let new := r.decimation.map fun d => { d with effective := min 64 (2 * d.effective) }
  if r.occupancy = 36 ∧ new.map Decimation.effective ≠ r.decimation.map Decimation.effective then
    { withEvent r none (.decimation (new.map Decimation.effective) true) with decimation := new }
  else r

/-- The report unit once its occupancy has fallen by one: at 12 every effective decimation is halved, down to the configured
one, with a DECIMATION event where one of them changes (R163). -/
def fallen (r : Report) : Report :=
  let new := r.decimation.map fun d => { d with effective := max d.configured (d.effective / 2) }
  if r.occupancy = 12 ∧ new.map Decimation.effective ≠ r.decimation.map Decimation.effective then
    { withEvent r none (.decimation (new.map Decimation.effective) false) with decimation := new }
  else r

/-! ### Requests and answers -/

/-- A Management Answer: the request's tag, kind and status in bytes 0 and 1, the data from byte 2 on (R156, R170). -/
def answer (tag : Byte) (kind : Nat) (st : Status) (data : List Byte) : ReportFrame :=
  ⟨.answer tag, [byteOf kind, byteOf st.code] ++ data⟩

/-- The management unit may take a request, and the oldest is r (R169). -/
abbrev Next (s : State) (r : Request) (rest : List Request) : Prop :=
  s.mgmt.inHand = none ∧ s.mgmt.held = none ∧ s.uplink.requests = r :: rest

/-- The management unit may take a request, and the oldest is of a kind, with a length the kind admits (R169, R172). -/
abbrev Takes (s : State) (kind : Nat) (r : Request) (rest : List Request) : Prop :=
  Next s r rest ∧ requestKind r.payload = some kind ∧ lengthAdmitted kind r.payload = true

/-- The state once a request has its answer f, with none held before: the answer enters the report queue's newest end, an
idle uplink chooses, and a rise to 36 places doubles the decimation; or the answer is held, where no place is free or a soft
restart drains (R158, R162, R167, R168). -/
def given (s : State) (f : ReportFrame) : State :=
  if s.report.occupancy < 48 ∧ s.restartMark = false then
    { s with
      report := risen { s.report with queue := s.report.queue ++ [f] }
      uplink := s.uplink.choose (s.report.queue ++ [f])
      mgmt := ⟨none, none⟩ }
  else { s with mgmt := ⟨none, some f⟩ }

/-- A command takes the oldest request, rest stays in the buffer, and answers it at once with the frame f; its other effects
are those that lead from s to s'. -/
def Answers (c : Instr) (s : State) (rest : List Request) (f : ReportFrame) (s' : State) : Prop :=
  exec c s = .next (given { s' with uplink := { s'.uplink with requests := rest } } f)

/-- The request in hand has its answer f: the newest frame of the report queue, or held (R167, R169). -/
def Answered (t : State) (f : ReportFrame) : Prop :=
  t.mgmt.inHand = none ∧ (t.report.queue.getLast? = some f ∧ t.mgmt.held = none ∨ t.mgmt.held = some f)

/-- Each request kind of R156 with the commands that take its requests; the three modes of HEAD_MODE and the four targets of
SET_SERVICE have a command each. -/
def requestRows : List (Nat × Instr) :=
  [(1, .readPart), (2, .readHead), (3, .readTime), (4, .readCell), (5, .memRead), (6, .readFault), (7, .syncConfig),
   (8, .headConfig), (9, .writeComp), (10, .writePose), (11, .tableConfig), (12, .spillConfig), (13, .memConfig),
   (14, .setArbiter), (15, .memWrite), (16, .purgeCell), (17, .purgeAll), (18, .pinCell), (19, .unpinCell),
   (20, .pointState), (21, .headModeEnable), (21, .headModeDisable), (21, .headModeAim), (22, .clearFault),
   (23, .setServiceActive), (23, .setServiceHold), (23, .setServiceStandby), (23, .setServiceWake), (24, .restart)]

/-- A state with the request taken from the buffer and kept in hand (R169). -/
def kept (s : State) (tag : Byte) (rest : List Request) (w : Work) : State :=
  { s with
    uplink := { s.uplink with requests := rest }
    mgmt := { s.mgmt with inHand := some ⟨tag, w⟩ } }

/-! ### Faults, context changes and Steer frames -/

/-- A subject's fault record. -/
def faultsOf (s : State) : Option Head → FaultRecord
  | none => s.partFault
  | some n => s.headFaults.get n

/-- A state with a subject's fault record and the report unit replaced. -/
def withFaults (s : State) (k : Option Head) (f : FaultRecord) (r : Report) : State :=
  match k with
  | none => { s with partFault := f, report := r }
  | some n => { s with headFaults := s.headFaults.set n f, report := r }

/-- The state once a fault has been raised: an empty record takes it as first fault and a FAULT event is placed, a held one
takes its kind into the set of further kinds (R182). -/
def raised (s : State) (k : Option Head) (kind : FaultKind) (detail : Nat) : State :=
  if (faultsOf s k).first.isNone then
    withFaults s k ⟨some ⟨kind, s.time.timebase, detail⟩, (faultsOf s k).further⟩
      (withEvent s.report k (.fault kind detail))
  else withFaults s k ⟨(faultsOf s k).first, insertKind kind (faultsOf s k).further⟩ s.report

/-- A fault raised in the same instant as another event of its slot: either event may be the one held, superseded (R164),
and nothing but the draw of the choice differs. -/
def RaisedWith (s : State) (k : Option Head) (kind : FaultKind) (detail : Nat) (e : Event) (t : State) : Prop :=
  if (faultsOf s k).first.isNone then
    ∃ held, (held = e ∨ held = .fault kind detail) ∧
      { t with freeCount := s.freeCount } =
        withFaults s k ⟨some ⟨kind, s.time.timebase, detail⟩, (faultsOf s k).further⟩
          (match k with
            | none => { s.report with partSlot := some ⟨held, true⟩ }
            | some n => { s.report with headSlots := s.report.headSlots.set n (some ⟨held, true⟩) })
  else t = withFaults s k ⟨(faultsOf s k).first, insertKind kind (faultsOf s k).further⟩ (withEvent s.report k e)

/-- A head port once a Steer frame has been produced for it: dropped while DOWN (R146), otherwise with the current Steer
tag in the Steer slot, or in transmission where the transmitter is idle (R149, R150, R152). -/
def withSteer (n : Head) (p : HeadPort) (payload : List Byte) : HeadPort :=
  if !p.up then p
  else if p.sending.isSome then
    { p with steer := some ⟨byteOf p.steerTag, payload⟩, steerTag := (p.steerTag + 1) % 256 }
  else
    { p with
      steer := none, steerTag := (p.steerTag + 1) % 256
      sending := some (buildFrame 3 (headNumber n + 1) 0 (byteOf p.steerTag) 0 payload) }

/-- A state with one head's context, its event slot and its port after a change of context state with a STATE event (R55)
and, where one is produced, a Steer frame (R54). -/
def changed (s : State) (n : Head) (c : Context) (cause : StateCause) (steer : Option (List Byte)) : State :=
  { s with
    ctx := s.ctx.set n c
    report := withEvent s.report (some n) (.state (s.ctx.get n).state c.state cause)
    ports := match steer with
      | none => s.ports
      | some payload => s.ports.set n (withSteer n (s.ports.get n) payload) }

/-- A port of head n once it is UP, its idle transmitter having chosen (R146, R149, R150; log 15 for a Head Command chosen). -/
def headUp (s : State) (n : Head) : HeadPort := HeadPort.choose n { s.ports.get n with up := true }

/-- The uplink once it is UP, its idle transmitter having chosen (R146, R149). -/
def uplinkUp (s : State) : Uplink := Uplink.choose { s.uplink with up := true } s.report.queue

/-- A Steer payload: the sync index, mode, reason and angles (R154). -/
def aim (index mode reason : Nat) (az el : Int) : List Byte :=
  natLE 2 index ++ [byteOf mode, byteOf reason] ++ natLE 3 az.toNat ++ intLE 3 el

/-! ### Walks -/

/-- A walk restarted: what it has read is dropped, with an outstanding read's data too, and the hashed bucket is the next to
be read (R74). -/
def restarted (l : Lookup) (w : Walk) : Walk :=
  { w with
    visited := [], matched := [], overflow := false, dropData := w.outstanding.isSome
    outstanding := some (w.outstanding.getD (cellHash l.bucketCount w.key)) }

/-- The reads that restarted walks with none outstanding request at once (R74). -/
def restartReads (l : Lookup) (ws : List Walk) : List WalkRead :=
  (ws.filter fun w => w.outstanding.isNone).map fun w =>
    ⟨w.charge, cellHash l.bucketCount w.key, l.base + cellHash l.bucketCount w.key * 64⟩

/-- What a purge makes of a walk: it is restarted without its pin for the samples that wait, or without any it ends, at once
or with the read outstanding; a discarded one stays as it is (R73, R79, R80). -/
def purged (l : Lookup) (w : Walk) : Option Walk :=
  if w.discarded then some w
  else if w.waiters = [] then
    if w.outstanding.isSome then some { w with pin := false, discarded := true } else none
  else some { restarted l w with pin := false }

/-! ### Samples -/

/-- The tracking unit takes head n's samples (R31). -/
abbrev samplesTaken (s : State) (n : Head) : Prop :=
  (s.service = .active ∨ s.service = .hold) ∧ s.restartMark = false ∧
    (s.ctx.get n).state ≠ .disabled ∧ (s.ctx.get n).state ≠ .parked

/-- A sample index passes the test of R32 against the head's most recent expiry and its last accepted index. -/
def indexPasses (s : State) (n : Head) (i : Nat) : Prop :=
  ∃ e, (s.headTime.get n).history.getLast? = some e ∧
    ((i = e.index ∧ (s.ctx.get n).lastIndex ≠ some e.index) ∨
      (i = (e.index + 65535) % 65536 ∧ (s.ctx.get n).lastIndex ≠ some i ∧ (s.ctx.get n).lastIndex ≠ some e.index))

/-- The state once head n's waiting sample, if it has one, has been finished as "lookup late" and handed to the capture unit
(R65). -/
def finishedLate (s : State) (n : Head) : State :=
  match s.waiting.get n with
  | some w => { s with waiting := s.waiting.set n none }.toCapture n ⟨w.sample, .late⟩
  | none => s

/-- A LOCKED sample slips (R37). -/
def slips (t : TrackSettings) (m : MeasuredSample) : Bool :=
  m.admValid && m.dist.any fun d => t.slipLimit < ((m.adm : Int) - d).natAbs

/-- The context after an accepted sample, by its state and the sample's return (R32, R33, R35, R37 to R41, R45). -/
def contextAfter (c : Context) (t : TrackSettings) (m : MeasuredSample) (ret slip : Bool) : Context :=
  let seen : Context := { c with
    lastIndex := some m.index, heard := true
    latest := some ⟨m.index, m.az, m.el, m.adm, m.admValid, m.count⟩ }
  let here : LockedSample := ⟨m.az, m.el, m.index⟩
  let locked : Context := match c.newest with
    | some p =>
      { seen with
        newest := some here, previous := some p
        velAz := (velocityFrom p here t.maxRate).1, velEl := (velocityFrom p here t.maxRate).2 }
    | none => { seen with newest := some here, previous := none }
  let settling (b : Context) : Context :=
    { b with state := .settling, timer := settleLength t.settleSelect, attempts := 1, search := none }
  match c.state with
  | .locked =>
    if ret then (if slip then settling locked else locked)
    else { seen with
      state := .coasting, timer := t.coastLimit, predicted := none
      newest := some (c.newest.getD here) }
  | .coasting | .searching | .lost => if ret then settling seen else seen
  | .offline => if ret then settling seen else { seen with state := .lost }
  | .settling =>
    if ret then seen
    else { seen with
      state := .searching, attempts := 0, timer := t.searchDwell
      search := some ⟨m.az, m.el, t.searchStep, t.searchRings, t.searchDwell, 1, 1, false⟩ }
  | .disabled | .parked => seen

/-- The Steer frame an accepted sample produces: FOLLOW on entry to SETTLING, the first search position on entry to SEARCHING
(R39, R40, R47, R54). -/
def sampleSteer (old new : Context) (m : MeasuredSample) (index : Nat) : Option (List Byte) :=
  if new.state = old.state then none
  else match new.state, new.search with
    | .settling, _ => some (natLE 2 index ++ [byteOf 0, byteOf 0] ++ natLE 3 m.az.toNat ++ intLE 3 m.el)
    | .searching, some q =>
      some (natLE 2 index ++ [byteOf 1, byteOf 2] ++ natLE 3 q.angles.1.toNat ++ intLE 3 q.angles.2)
    | _, _ => none

/-! ### Capture attempts -/

/-- An attempt at a slot must wait, by tests 2 to 4 of R93: a POINT_STATE for the slot or a MEM_WRITE over it is in hand, a
write-back of the slot is being written, or the write-back queue is full without a waiting entry for it. -/
def attemptHeld (s : State) (b : Nat) (sl : Slot) : Prop :=
  let slotAt := s.lookup.base + b * 64 + slotOffset sl
  let across (x : Nat) (bs : List Byte) : Prop := x < slotAt + 30 ∧ slotAt < x + bs.length
  let inHand := ∃ tag w, s.mgmt.inHand = some ⟨tag, w⟩ ∧
    (w = .pointWrite b sl ∨ (∃ asked, w = .pointBlocked b sl asked) ∨
      ∃ x bs, across x bs ∧ (w = .memWrite x bs ∨ w = .memWriteBlocked x bs))
  let entry (ph : WbPhase) := ∃ e ∈ s.capture.writeback, e.bucket = b ∧ e.slot = sl ∧ e.phase = ph
  inHand ∨ entry .writing ∨ (8 ≤ s.capture.writeback.length ∧ ¬entry .waiting)

/-! ### Layouts -/

/-- The 22 bytes of a Sample payload (R153), with any values in the six status bits that are not read. -/
def samplePayload (r : RawSample) (unread : Nat) : List Byte :=
  natLE 2 r.index ++ natLE 3 r.azimuth ++ intLE 3 r.elevation ++ intLE 4 r.count ++ natLE 4 r.adm ++ intLE 2 r.psdX ++
    intLE 2 r.psdY ++ natLE 1 r.intensity ++
    natLE 1 ((if r.admValid then 1 else 0) + (if r.motorFault then 2 else 0) + 4 * (unread % 64))

/-- The fields of a sample lie in the ranges of R153. -/
def sampleLegal (r : RawSample) : Bool :=
  r.index < 65536 && r.azimuth < 16777216 && (-8388608 ≤ r.elevation && r.elevation ≤ 8388607) &&
    (-2147483648 ≤ r.count && r.count ≤ 2147483647) && r.adm < 4294967296 &&
    (-32768 ≤ r.psdX && r.psdX ≤ 32767) && (-32768 ≤ r.psdY && r.psdY ≤ 32767) && r.intensity < 256

end Sys2Proof.Safety
end

