-- ==== Sys2Proof/Certificates/Slice0/Obligations.lean ====
section
/-! DEFINITION. The statements for the provers, from the numbered rules of spec/. Each is a Prop and proves nothing here. In
a statement about a command, exec is the command's effect with the rest of the queue already taken off; whatever a statement
does not name as changed, its equations leave as it was. -/

open Sys2Proof Sys2Proof.Machine

/-! ### The step, the reset state and the invariants -/

/-- A step with a command at the front of the queue is that command's exec on the state with the rest of the queue. With no
command waiting it is the exec of a step of the part's own that is due, one of several by a free draw, or one tick where none
is due (log 2). -/
def Obligations.StepRunsFrontCommand : Prop :=
  (∀ (c : Instr) (rest : List Instr) (s : State), s.pending = c :: rest → step s = exec c { s with pending := rest }) ∧
  (∀ s : State, s.pending = [] →
    (s.due = [] → step s = .next { s with time := s.time.tick }) ∧
    (∀ c, s.due = [c] → step s = exec c s) ∧
    (2 ≤ s.due.length → ∃ c ∈ s.due, step s = exec c { s with freeCount := s.freeCount + 1 }))

/-- The state right after a hard reset is safe: each invariant below holds of it. -/
def Obligations.ResetIsSafe : Prop := Safety.safe State.reset = true

/-- Table memory keeps its canonical form over every step. -/
def Obligations.StepKeepsMemoryCanonical : Prop :=
  ∀ s t : State, Safety.memoryCanonical s = true → step s = .next t → Safety.memoryCanonical t = true

/-- The report queue never holds more than 48 frames and reserved places, of which at most 40 are Position frames, and each
reserved place belongs to a drain read (R158, R166). -/
def Obligations.StepKeepsReportBounded : Prop :=
  ∀ s t : State, Safety.reportBounded s = true → step s = .next t → Safety.reportBounded t = true

/-- The buffers, lists, counts and fault records that buffersBounded names stay within their places (R29, R61, R62, R68, R69,
R85, R99, R103, R106, R107, R111, R117, R125, R137, R143, R160, R181; log 27 for the drain reads counted). It names all but the
report queue, which has an invariant of its own, and the waiting requests of the WALK and SPILL requesters (R132). -/
def Obligations.StepKeepsBuffersBounded : Prop :=
  ∀ s t : State, Safety.buffersBounded s = true → step s = .next t → Safety.buffersBounded t = true

/-- Every setting stays within its range, whatever the requests carry: the heads' measurement settings with their compensation
entries and pose, tracking settings, decimations, windows and phases, the sync configuration in force and pending, the table
configuration in force and in hand, the ring's base, and the memory's interval and timing set (R1, R2, R7, R21, R30, R57,
R104, R113, R118, R126, R127, R160, R161). -/
def Obligations.StepKeepsSettingsLegal : Prop :=
  ∀ s t : State, Safety.settingsLegal s = true → step s = .next t → Safety.settingsLegal t = true

/-- The reference state and the once-locked mark stay one of the pairs that R112 lists. -/
def Obligations.StepKeepsReferenceLegal : Prop :=
  ∀ s t : State, Safety.referenceLegal s = true → step s = .next t → Safety.referenceLegal t = true

/-- No two valid records, live walks or listed keys come to share a cell key, no two walks a charge, and at most 24 pins are
ever held (R61, R63, R66, R75, R78). -/
def Obligations.StepKeepsCacheConsistent : Prop :=
  ∀ s t : State, Safety.cacheConsistent s = true → step s = .next t → Safety.cacheConsistent t = true

/-- The timebase never decreases and never moves by more than one tick in a step, but at a hard reset, which sets it to 0. A
tick adds one to it, up to its top value, and to the lock-up count, up to 2^20, while ACQUIRING with the reference present;
it changes nothing else of the time base (R109, R111; log 35 for the count's end). A command never touches the queue of
commands behind it (log 31 for the queue at a hard reset). -/
def Obligations.TimebaseCountsTicks : Prop :=
  (∀ s t : State, s.time.timebase ≤ 18446744073709551615 → (∀ rest, s.pending ≠ Instr.hardReset :: rest) → step s = .next t →
    (s.time.timebase ≤ t.time.timebase ∧ t.time.timebase ≤ s.time.timebase + 1 ∧
      t.time.timebase ≤ 18446744073709551615)) ∧
  (∀ s t : State, exec .hardReset s = .next t → t.time.timebase = 0) ∧
  (∀ s : State, s.pending = [] → s.due = [] → step s = .next { s with time := { s.time with
    timebase := if s.time.timebase < 18446744073709551615 then s.time.timebase + 1 else 18446744073709551615
    lockUp := if s.time.refState = .acquiring ∧ s.time.present = true then
        (if s.time.lockUp < 1048576 then s.time.lockUp + 1 else 1048576)
      else s.time.lockUp } }) ∧
  (∀ (c : Instr) (s t : State), exec c s = .next t → t.pending = s.pending)

/-! ### Measurement arithmetic (Chapter 1) -/

/-- Stage 1's error between two table entries: the formula of R9, and that it lies between the entries. -/
def Obligations.EncoderErrorInterpolates : Prop :=
  ∀ (t : List Int) (p : Int), 0 ≤ p → p < 16777216 →
    let i := (p / 65536).toNat
    let j := if i = 255 then 0 else i + 1
    let f := p % 65536
    i ≤ 255 ∧
    encoderError t p = t.getD i 0 + ((t.getD j 0 - t.getD i 0) * f + 32768) / 65536 ∧
    min (t.getD i 0) (t.getD j 0) ≤ encoderError t p ∧ encoderError t p ≤ max (t.getD i 0) (t.getD j 0) ∧
    (t.length = 256 → (∀ e ∈ t, -32768 ≤ e ∧ e ≤ 32767) → -32768 ≤ encoderError t p ∧ encoderError t p ≤ 32767)

/-- Stage 2: the conditioned offset, its clamp flag, and the corrected angles with their ranges. -/
def Obligations.CorrectedAnglesInRange : Prop :=
  (∀ (db : Nat) (v : Int), db ≤ 15 →
    conditionPsd db v = (if v.natAbs ≤ db then 0 else if v > 2048 then 2048 else if v < -2048 then -2048 else v) ∧
    (psdClamped v = true ↔ v > 2048 ∨ v < -2048)) ∧
  (∀ (m : Measure) (r : RawSample),
    correctedAzimuth m r =
      ((r.azimuth : Int) - encoderError m.compAz ((r.azimuth : Int) % 16777216) + conditionPsd m.deadband r.psdX) % 16777216 ∧
    0 ≤ correctedAzimuth m r ∧ correctedAzimuth m r ≤ 16777215 ∧
    (let el := r.elevation - encoderError m.compEl (r.elevation % 16777216) + conditionPsd m.deadband r.psdY
     correctedElevation m r = (if el > 4194304 then 4194304 else if el < -4194304 then -4194304 else el)) ∧
    -4194304 ≤ correctedElevation m r ∧ correctedElevation m r ≤ 4194304)

/-- The sine table, each of whose 1,025 entries is the formula of R17 rounded to the nearest integer, with the entries that
R17 prints; and the quarter-turn sine: the interpolation of R18 over the table, its range, and that it never decreases. -/
def Obligations.QuarterSineInterpolates : Prop :=
  (∀ i : Nat, i ≤ 1024 → |(sineTable i : ℝ) - 2 ^ 30 * Real.sin (i * Real.pi / 2048)| ≤ 1 / 2) ∧
  sineTable 0 = 0 ∧ sineTable 1 = 1647099 ∧ sineTable 512 = 759250125 ∧ sineTable 1023 = 1073740561 ∧
  sineTable 1024 = 1073741824 ∧
  (∀ v, v < 4194304 →
    quarterSine v = (sineTable (v / 4096) : Int) +
      (((sineTable (v / 4096 + 1) : Int) - sineTable (v / 4096)) * ((v % 4096 : Nat) : Int) + 2048) / 4096) ∧
  quarterSine 4194304 = 1073741824 ∧
  (∀ v, v ≤ 4194304 → 0 ≤ quarterSine v ∧ quarterSine v ≤ 1073741824) ∧
  (∀ v w, v ≤ w → w ≤ 4194304 → quarterSine v ≤ quarterSine w)

/-- The sine by quadrant, the cosine, their period, their range and the exact quarter points (R19). -/
def Obligations.SineByQuadrant : Prop :=
  (∀ (u : Nat) (k : Int), u < 4194304 →
    sine (u + 16777216 * k) = quarterSine u ∧
    sine (u + 4194304 + 16777216 * k) = quarterSine (4194304 - u) ∧
    sine (u + 8388608 + 16777216 * k) = -quarterSine u ∧
    sine (u + 12582912 + 16777216 * k) = -quarterSine (4194304 - u)) ∧
  (∀ x : Int, cosine x = sine (x + 4194304) ∧ -1073741824 ≤ sine x ∧ sine x ≤ 1073741824) ∧
  sine 0 = 0 ∧ sine 4194304 = 1073741824 ∧ sine 8388608 = 0 ∧ sine 12582912 = -1073741824

/-- Stage 5: the station position, whose horizontal range never exceeds the distance and whose coordinates stay within it; and
how rounding half up treats a product and its negative (R20). -/
def Obligations.StationPositionBounded : Prop :=
  (∀ d a el : Int, 0 ≤ d → -4194304 ≤ el → el ≤ 4194304 →
    let h := (d * cosine el + 536870912) / 1073741824
    stationPosition d a el =
      ⟨(h * cosine a + 536870912) / 1073741824, (h * sine a + 536870912) / 1073741824,
        (d * sine el + 536870912) / 1073741824⟩ ∧
    0 ≤ cosine el ∧ 0 ≤ h ∧ h ≤ d ∧
    -d ≤ (stationPosition d a el).x ∧ (stationPosition d a el).x ≤ d ∧
    -d ≤ (stationPosition d a el).y ∧ (stationPosition d a el).y ≤ d ∧
    -d ≤ (stationPosition d a el).z ∧ (stationPosition d a el).z ≤ d) ∧
  (∀ p : Int, over30 (-p) = -over30 p + (if p % 1073741824 = 536870912 then 1 else 0))

/-- A measured sample is what stages 1 to 6 make of it: distance by source, station, block, saturation and flags (R10 to R15,
R20, R22). -/
def Obligations.MeasuredSampleFollowsStages : Prop :=
  ∀ (m : Measure) (src : DistSource) (ts : Int) (r : RawSample),
    let out := measureSample m src ts r
    let raw := m.anchor + (r.count * (m.countScale : Int) + 2147483648) / 4294967296
    let dmax : Int := m.distanceMax
    out.index = r.index ∧ out.timestamp = ts ∧ out.adm = r.adm ∧ out.admValid = r.admValid ∧ out.count = r.count ∧
    out.az = correctedAzimuth m r ∧ out.el = correctedElevation m r ∧
    out.dist = (match src with
      | .interferometer => some (if raw < 0 then 0 else if raw > dmax then dmax else raw)
      | .adm => some (if (r.adm : Int) > dmax then dmax else (r.adm : Int))
      | .none => none) ∧
    (∀ d, out.dist = some d → 0 ≤ d ∧ d ≤ dmax) ∧
    (out.flags.distRange = true ↔
      (src = .interferometer ∧ (raw < 0 ∨ raw > dmax)) ∨ (src = .adm ∧ (r.adm : Int) > dmax)) ∧
    (out.flags.distCoarse = true ↔ src = .adm) ∧ (out.flags.noDist = true ↔ src = .none) ∧
    (let raw := r.elevation - encoderError m.compEl (r.elevation % 16777216) + conditionPsd m.deadband r.psdY
     out.flags.elevClamp = true ↔ raw > 4194304 ∨ raw < -4194304) ∧
    (out.flags.psdClamp = true ↔ r.psdX > 2048 ∨ r.psdX < -2048 ∨ r.psdY > 2048 ∨ r.psdY < -2048) ∧
    (out.block = none ↔ src = .none) ∧ (src = .none → out.flags.coordSat = false) ∧
    (∀ d, out.dist = some d →
      let v := stationPosition d out.az out.el
      let row (q : Vec3) (tr : Int) : Int := (q.x * v.x + q.y * v.y + q.z * v.z + 536870912) / 1073741824 + tr
      let bx := row m.rotation.row1 m.translation.x
      let by_ := row m.rotation.row2 m.translation.y
      let bz := row m.rotation.row3 m.translation.z
      let sat (b : Int) : Int := max (-2147483648) (min 2147483647 b)
      out.block = some ⟨⟨sat bx, sat by_, sat bz⟩, m.poseGen⟩ ∧
      (out.flags.coordSat = true ↔ sat bx ≠ bx ∨ sat by_ ≠ by_ ∨ sat bz ≠ bz))

/-- The cell key by floor division, its range, and the hashed bucket with its address inside the table (R23, R24). -/
def Obligations.CellKeyAndBucketAddress : Prop :=
  ∀ (shift : Nat) (b : Vec3) (base count : Nat), 16 ≤ shift → shift ≤ 22 → 0 < count →
    -2147483648 ≤ b.x → b.x ≤ 2147483647 → -2147483648 ≤ b.y → b.y ≤ 2147483647 →
    -2147483648 ≤ b.z → b.z ≤ 2147483647 →
    let k := cellKeyOf shift b
    let h := cellHash count k
    k = ⟨b.x / 2 ^ shift, b.y / 2 ^ shift, b.z / 2 ^ shift⟩ ∧
    -32768 ≤ k.cx ∧ k.cx ≤ 32767 ∧ -32768 ≤ k.cy ∧ k.cy ≤ 32767 ∧ -32768 ≤ k.cz ∧ k.cz ≤ 32767 ∧
    h < count ∧ (h : Int) = (k.cx + 31 * k.cy + 961 * k.cz) % (count : Int) ∧
    bucketAddress base h = base + h * 64 ∧ bucketAddress base h + 64 ≤ base + count * 64

/-- The point chosen for a position: it is in the list and not DISABLED, no other such point is nearer, an equally near one
has no lower id, and an equally near one with the same id does not come before it; none is chosen only where every point is
DISABLED. A point that is not DISABLED is in window by its tolerance; a DISABLED one is never chosen, and only the point
chosen is tested (R25, R26, R87). -/
def Obligations.NearestPointIsNearest : Prop :=
  ∀ (b : Vec3) (ps : List Point),
    let r2 (p : Point) : Int := (b.x - p.nominal.x) ^ 2 + (b.y - p.nominal.y) ^ 2 + (b.z - p.nominal.z) ^ 2
    (nearestPoint b ps = none ↔ ∀ p ∈ ps, p.state = .disabled) ∧
    (∀ p, nearestPoint b ps = some p → ∃ before after, ps = before ++ p :: after ∧ p.state ≠ .disabled ∧
      (∀ q ∈ before, q.state ≠ .disabled → r2 p < r2 q ∨ (r2 p = r2 q ∧ p.id < q.id)) ∧
      (∀ q ∈ after, q.state ≠ .disabled → r2 p < r2 q ∨ (r2 p = r2 q ∧ p.id ≤ q.id))) ∧
    (∀ p, p.state ≠ .disabled → (inWindow b p = true ↔ r2 p ≤ (p.tolerance : Int) ^ 2))

/-- The capture mean: the formula of R27, that it is the nearest integer with midway values away from zero, and that it lies
within the range of the values averaged. -/
def Obligations.MeanRoundsToNearest : Prop :=
  (∀ (sum : Int) (k : Nat), 0 < k →
    (0 < sum → meanOf sum k = (2 * sum + k) / (2 * k)) ∧ (sum < 0 → meanOf sum k = -((2 * -sum + k) / (2 * k))) ∧
    meanOf 0 k = 0 ∧
    2 * (k * meanOf sum k - sum) ≤ k ∧ -(k : Int) ≤ 2 * (k * meanOf sum k - sum) ∧
    (2 * (k * meanOf sum k - sum) = k → 0 ≤ sum) ∧ (2 * (k * meanOf sum k - sum) = -k → sum ≤ 0)) ∧
  (∀ (l : List Int) (lo hi : Int), l ≠ [] → (∀ x ∈ l, lo ≤ x ∧ x ≤ hi) →
    lo ≤ meanOf l.sum l.length ∧ meanOf l.sum l.length ≤ hi)

/-! ### Layouts, the ports and table memory as such (Chapters 6 and 7) -/

/-- A frame the part builds is good at the port that receives it, and every header field and its payload read back. -/
def Obligations.BuiltFramesAreGood : Prop :=
  ∀ (kind dest src flags : Nat) (tag : Byte) (payload : List Byte), kind < 256 → dest < 256 → src < 256 → flags < 256 →
    payload.length ≤ 60 →
    let f := buildFrame kind dest src tag flags payload
    frameBad f = false ∧ f.length = 8 + payload.length ∧ frameKind f = kind ∧ frameDest f = dest ∧ natAt 2 1 f = src ∧
    frameTag f = tag ∧ frameFlags f = flags ∧ frameLength f = payload.length ∧ framePayload f = payload

/-- Every legal sample reads back from its Sample payload, whatever the six status bits that are not read hold. -/
def Obligations.SamplePayloadReadsBack : Prop :=
  ∀ (r : RawSample) (unread : Nat), Safety.sampleLegal r = true →
    (Safety.samplePayload r unread).length = 22 ∧ decodeSample (Safety.samplePayload r unread) = r

/-- The parameters of WRITE_POSE, WRITE_COMP, SYNC_CONFIG, the cell key requests and HEAD_MODE AIM read back from payloads laid
out as R172 gives them. -/
def Obligations.RequestParametersReadBack : Prop :=
  (∀ (n : Nat) (r : Rotation) (v : Vec3), n < 256 →
    Safety.signedVec 32 r.row1 → Safety.signedVec 32 r.row2 → Safety.signedVec 32 r.row3 → Safety.signedVec 32 v →
    let p := [byteOf 10, byteOf n] ++ vecLE 4 r.row1 ++ vecLE 4 r.row2 ++ vecLE 4 r.row3 ++ vecLE 4 v
    lengthAdmitted 10 p = true ∧ paramHead p = headOf n ∧ paramPose p = (r, v)) ∧
  (∀ (n axis first : Nat) (es : List Int), n < 256 → axis < 256 → first < 256 → 1 ≤ es.length → es.length ≤ 24 →
    (∀ e ∈ es, -32768 ≤ e ∧ e ≤ 32767) →
    let p := [byteOf 9, byteOf n, byteOf axis, byteOf first] ++ es.flatMap (intLE 2)
    lengthAdmitted 9 p = true ∧ paramHead p = headOf n ∧ natAt 2 1 p = axis ∧ natAt 3 1 p = first ∧ paramEntries p = es) ∧
  (∀ (period : Nat) (ph : PerHead Nat), period < 4294967296 → ph.h0 < 4294967296 → ph.h1 < 4294967296 →
    ph.h2 < 4294967296 → ph.h3 < 4294967296 →
    let p := [byteOf 7] ++ natLE 4 period ++ natLE 4 ph.h0 ++ natLE 4 ph.h1 ++ natLE 4 ph.h2 ++ natLE 4 ph.h3
    lengthAdmitted 7 p = true ∧ paramSync p = ⟨max 20000 (min 1000000 period), ph⟩) ∧
  (∀ (kind : Nat) (k : CellKey), kind = 16 ∨ kind = 18 ∨ kind = 19 → Safety.signedVec 16 ⟨k.cx, k.cy, k.cz⟩ →
    let p := [byteOf kind] ++ intLE 2 k.cx ++ intLE 2 k.cy ++ intLE 2 k.cz
    lengthAdmitted kind p = true ∧ paramKey p = k) ∧
  (∀ (n az : Nat) (el : Int), n < 256 → az < 4294967296 → -2147483648 ≤ el → el ≤ 2147483647 →
    let p := [byteOf 21, byteOf n, byteOf 2] ++ natLE 4 az ++ intLE 4 el
    lengthAdmitted 21 p = true ∧ paramHead p = headOf n ∧
    paramAim p = ((az : Int) % 16777216, max (-4194304) (min 4194304 el)))

/-- An idle transmitter's choice: on a head port the Steer slot before the forward buffer, on the uplink the source not last
served; a DOWN port or one that is sending chooses nothing (R146, R149 to R152). -/
def Obligations.TransmittersChoose : Prop :=
  (∀ (n : Head) (p : HeadPort), p.up = false ∨ p.sending ≠ none → p.choose n = p) ∧
  (∀ (n : Head) (p : HeadPort), p.up = true → p.sending = none →
    (∀ f, p.steer = some f →
      p.choose n = { p with steer := none, sending := some (buildFrame 3 (headNumber n + 1) 0 f.tag 0 f.payload) }) ∧
    (p.steer = none → ∀ f rest, p.forward = f :: rest → p.choose n = { p with forward := rest, sending := some f }) ∧
    (p.steer = none → p.forward = [] → p.choose n = p)) ∧
  (∀ (u : Uplink) (q : List ReportFrame), u.up = false ∨ u.sending ≠ none → u.choose q = u) ∧
  (∀ (u : Uplink) (q : List ReportFrame), u.up = true → u.sending = none →
    (∀ f fs, u.forward = f :: fs → q = [] ∨ u.servedReport = true →
      u.choose q = { u with sending := some ⟨.forward, f⟩, servedReport := false }) ∧
    (∀ r rs, q = r :: rs → u.forward = [] ∨ u.servedReport = false →
      (∀ tag, r.kind = .answer tag → u.choose q =
        { u with sending := some ⟨.report, buildFrame 6 5 0 tag 0 r.payload⟩, servedReport := true }) ∧
      (∀ code, (r.kind, code) ∈ [(ReportKind.position, 7), (.capture, 8), (.event, 9)] → u.choose q =
        { u with
          sending := some ⟨.report, buildFrame code 5 0 (byteOf u.reportTag) 0 r.payload⟩
          servedReport := true, reportTag := (u.reportTag + 1) % 256 })) ∧
    (q = [] → u.forward = [] → u.choose q = u))

/-- Where a byte address lies, that no two addresses lie at one place of one row, that a bucket and a slot lie in one row of
one bank for every interleave, and that an access of up to 64 bytes touches no bank-row but those it is charged for (R128; log 42 for the order of
two). -/
def Obligations.AccessTouchesItsBankRows : Prop :=
  ∀ (i : Interleave) (a : Nat), let g := i.bytes
    (bankOf g a = a / g % 4 ∧ rowOf g a = (a / (4 * g) * g + a % g) / 2048) ∧
    (a < 67108864 → bankOf g a < 4 ∧ rowOf g a < 8192) ∧
    (∀ b, bankOf g a = bankOf g b → rowOf g a = rowOf g b → a % 2048 = b % 2048 → a = b) ∧
    (a % 64 = 0 → ∀ off len, 0 < len → off + len ≤ 64 → bankRows g (a + off) len = [(bankOf g a, rowOf g a)]) ∧
    (∀ len k, len ≤ 64 → k < len → (bankOf g (a + k), rowOf g (a + k)) ∈ bankRows g a len ∧ (bankRows g a len).length ≤ 2)

/-- Every grant ends within 400 ns, with each bank-row charged by its bank's open row, and one access time more for a write
after a read (R127, R129, R137). -/
def Obligations.GrantsEndWithin400ns : Prop :=
  (∀ (t : Timing) (row r : Nat),
    rowDuration t (some row) row = t.access ∧ rowDuration t none row = t.activate + t.access ∧
    (r ≠ row → rowDuration t (some r) row = t.precharge + t.activate + t.access)) ∧
  (∀ (m : MemCtl) (l : Lookup) (sp : Spill) (a : Access), Safety.timingLegal m.timing = true → l.base % 64 = 0 →
    (accessCost m l sp a).1 ≤ 400 ∧ 10 ≤ (accessCost m l sp a).1)

/-- The rate of an axis over an index gap, the short way round the turn, and the velocity from two locked samples (R36). -/
def Obligations.VelocityFromLockedPair : Prop :=
  (∀ d : Int, (shortWay d - d) % 16777216 = 0 ∧ -8388608 < shortWay d ∧ shortWay d ≤ 8388608) ∧
  (∀ (d : Int) (gap mx : Nat), 0 < gap →
    rate d gap mx = max (-(mx : Int)) (min mx ((2 * d + gap) / (2 * gap))) ∧ -(mx : Int) ≤ rate d gap mx ∧ rate d gap mx ≤ mx) ∧
  (∀ (p q : LockedSample) (mx : Nat), ∃ gap : Nat, (gap : Int) = ((q.index : Int) - p.index) % 65536 ∧
    velocityFrom p q mx = (rate (shortWay (q.az - p.az)) gap mx, rate (q.el - p.el) gap mx))

/-- The square spiral: ring r holds its 8 r offsets, each once and none other; its sides in their order; the steered angles of
an offset; the position after a position; and a search of R rings visits 4 R (R + 1) positions before it ends (R46). -/
def Obligations.SearchVisitsSquareRings : Prop :=
  (∀ r : Nat, 1 ≤ r →
    ((List.range (8 * r)).map fun i => ringOffset r (i + 1)).Nodup ∧
    (∀ x y : Int, (∃ p, 1 ≤ p ∧ p ≤ 8 * r ∧ ringOffset r p = (x, y)) ↔ max x.natAbs y.natAbs = r) ∧
    (∀ p, 1 ≤ p → p ≤ 2 * r → ringOffset r p = ((r : Int), -(r : Int) + p) ∧
      ringOffset r (2 * r + p) = ((r : Int) - p, (r : Int)) ∧ ringOffset r (4 * r + p) = (-(r : Int), (r : Int) - p) ∧
      ringOffset r (6 * r + p) = (-(r : Int) + p, -(r : Int)))) ∧
  (∀ q : SearchRecord, let o := ringOffset q.ring q.pos
    q.angles = ((q.centreAz + o.1 * q.step) % 16777216, max (-4194304) (min 4194304 (q.centreEl + o.2 * q.step)))) ∧
  (∀ q : SearchRecord, q.ring = 1 → q.pos = 1 → 1 ≤ q.rings →
    (∀ k, k < 4 * q.rings * (q.rings + 1) → (fun o : Option SearchRecord => o.bind SearchRecord.next)^[k] (some q) ≠ none) ∧
    (fun o : Option SearchRecord => o.bind SearchRecord.next)^[4 * q.rings * (q.rings + 1)] (some q) = none) ∧
  (∀ q : SearchRecord, 1 ≤ q.ring → q.ring ≤ q.rings → 1 ≤ q.pos → q.pos ≤ 8 * q.ring →
    (q.pos < 8 * q.ring → q.next = some { q with pos := q.pos + 1 }) ∧
    (q.pos = 8 * q.ring → q.next = if q.ring = q.rings then none else some { q with ring := q.ring + 1, pos := 1 })) ∧
  (∀ q : SearchRecord, q.ring = 0 → q.next = some { q with ring := 1, pos := 1 } ∧ ringOffset 0 q.pos = (0, 0))

/-- The order of the requesters for each of the eight settings of the exchange options, and what is granted at a grant point:
a forced refresh, the first request of the first requester in that order that has one, an owed refresh (R133, R134). -/
def Obligations.GrantFollowsOrder : Prop :=
  (requesterOrder false false false = [.walk, .writeback, .spill, .mgmt] ∧
    requesterOrder true false false = [.mgmt, .walk, .writeback, .spill] ∧
    requesterOrder false true false = [.walk, .spill, .writeback, .mgmt] ∧
    requesterOrder false false true = [.writeback, .walk, .spill, .mgmt] ∧
    requesterOrder true true false = [.mgmt, .walk, .spill, .writeback] ∧
    requesterOrder true false true = [.mgmt, .writeback, .walk, .spill] ∧
    requesterOrder false true true = [.spill, .writeback, .walk, .mgmt] ∧
    requesterOrder true true true = [.mgmt, .spill, .writeback, .walk]) ∧
  (∀ s : State, 8 ≤ s.mem.owed → s.granted = some .refresh) ∧
  (∀ (s : State) (q : Requester) (a : Access), s.mem.owed < 8 →
    (s.firstRequest q = some a ∧ ∃ before after, requesterOrder s.mem.x1 s.mem.x2 s.mem.x3 = before ++ q :: after ∧
      ∀ p ∈ before, s.firstRequest p = none) → s.granted = some a) ∧
  (∀ s : State, s.mem.owed < 8 → (∀ q, s.firstRequest q = none) →
    s.granted = if s.mem.owed = 0 then none else some .refresh)

/-! ### Frames reaching a port (Chapter 7) -/

/-- When a frame is bad and how its check is formed (R144, R145); a bad frame, and a good one that does not belong on its
port, is discarded and counted, and only the good one brings the port UP (R146 to R148; log 15 for a Head Command that leaves a
head port's forward buffer as its transmission begins). -/
def Obligations.DiscardedFramesCounted : Prop :=
  (∀ f, frameBad f = true ↔ f.length < 8 ∨ natAt 5 1 f > 60 ∨ f.length ≠ 8 + natAt 5 1 f ∨
    natAt (6 + natAt 5 1 f) 2 f ≠ (crc (f.take (6 + natAt 5 1 f))).toNat) ∧
  (∀ bytes : List Byte, crc bytes =
    (bytes.flatMap fun b => [7, 6, 5, 4, 3, 2, 1, 0].map b.toNat.testBit).foldl
      (fun (r : BitVec 16) (bit : Bool) => if r.getLsbD 15 = bit then r <<< 1 else (r <<< 1) ^^^ 4129#16) 65535#16) ∧
  (∀ (n : Head) (f : List Byte) (s : State), frameBad f = true →
    exec (.badFrame (.head n) f) s = .next { s with
      ports := s.ports.set n { s.ports.get n with bad := min 65535 ((s.ports.get n).bad + 1) } }) ∧
  (∀ (f : List Byte) (s : State), frameBad f = true →
    exec (.badFrame .uplink f) s = .next { s with uplink := { s.uplink with bad := min 65535 (s.uplink.bad + 1) } }) ∧
  (∀ (n : Head) (f : List Byte) (s : State), frameBad f = false →
    ¬(frameKind f = 1 ∧ frameDest f = 0 ∧ frameLength f = 22) → ¬(frameKind f = 2 ∧ frameDest f = 5) →
    exec (.discardedGoodFrame (.head n) f) s = .next { s with
      ports := s.ports.set n { Safety.headUp s n with bad := min 65535 ((s.ports.get n).bad + 1) } }) ∧
  (∀ (f : List Byte) (s : State), frameBad f = false →
    ¬(frameKind f = 5 ∧ frameDest f = 0) → ¬(frameKind f = 4 ∧ 1 ≤ frameDest f ∧ frameDest f ≤ 4) →
    exec (.discardedGoodFrame .uplink f) s = .next { s with
      uplink := { Safety.uplinkUp s with bad := min 65535 (s.uplink.bad + 1) } })

/-- A Head Status frame joins the newest end of the uplink forward buffer with all its bytes, or is discarded and counted at
its head port when the buffer holds 8 (R147); a Management Request joins the newest end of its buffer, or is discarded and
counted at the uplink when the buffer holds 4 (R148; log 15 for a Head Command that leaves a head port's forward buffer as its
transmission begins). -/
def Obligations.StatusAndRequestsBuffered : Prop :=
  (∀ (n : Head) (f : List Byte) (s : State), frameBad f = false → frameKind f = 2 → frameDest f = 5 →
    exec (.headStatusFrame n f) s = .next (
      if s.uplink.forward.length < 8 then
        { s with
          ports := s.ports.set n (Safety.headUp s n)
          uplink := Uplink.choose { s.uplink with forward := s.uplink.forward ++ [f] } s.report.queue }
      else
        { s with
          ports := s.ports.set n { Safety.headUp s n with bad := min 65535 ((s.ports.get n).bad + 1) } })) ∧
  (∀ (f : List Byte) (s : State), frameBad f = false → frameKind f = 5 → frameDest f = 0 →
    exec (.managementRequestFrame f) s = .next { s with uplink :=
      if s.uplink.requests.length < 4 then
        { Safety.uplinkUp s with requests := s.uplink.requests ++ [⟨frameTag f, framePayload f⟩] }
      else { Safety.uplinkUp s with bad := min 65535 (s.uplink.bad + 1) } })

/-- A Head Command joins its head's forward buffer; placed with the motion flag set it takes a COASTING or SEARCHING context to
LOST; with the buffer full it is discarded, counted at the uplink and not seen (R148, R52). That a frame leaves the buffer
as its transmission begins, so that the frame placed may be sent at once, is the model's choice (log 15). -/
def Obligations.HeadCommandForwarded : Prop :=
  ∀ (n : Head) (f : List Byte) (s : State), frameBad f = false → frameKind f = 4 → frameDest f = headNumber n + 1 →
    let p := s.ports.get n
    let c := s.ctx.get n
    let placed : HeadPort := HeadPort.choose n { p with forward := p.forward ++ [f] }
    exec (.headCommandFrame f) s = .next (
      if 8 ≤ p.forward.length then
        { s with uplink := { Safety.uplinkUp s with bad := min 65535 (s.uplink.bad + 1) } }
      else if (frameFlags f).testBit 0 = true ∧ (c.state = .coasting ∨ c.state = .searching) then
        { Safety.changed s n { c with state := .lost, timer := 0, search := none, predicted := none } .motionCommand none with
          uplink := Safety.uplinkUp s, ports := s.ports.set n placed }
      else { s with uplink := Safety.uplinkUp s, ports := s.ports.set n placed })

/-! ### Samples (Chapters 1 to 4) -/

/-- A sample that the tracking unit does not take leaves everything but its port as it was (R31); one outside the sync index
window or repeated is discarded too and raises SAMPLE_SEQUENCE with its index (R32, R182; log 15 for a Head Command that leaves
the port's forward buffer as its transmission begins). -/
def Obligations.SampleDiscarded : Prop :=
  ∀ (n : Head) (f : List Byte) (s : State), frameBad f = false → frameKind f = 1 → frameDest f = 0 →
    frameLength f = 22 →
    let r := decodeSample (framePayload f)
    let heard : State := { s with ports := s.ports.set n (Safety.headUp s n) }
    (¬Safety.samplesTaken s n → exec (.sampleFrame n f) s = .next heard) ∧
    (Safety.samplesTaken s n → ¬Safety.indexPasses s n r.index →
      exec (.sampleFrame n f) s = .next (Safety.raised heard (some n) .sampleSequence r.index))

/-- An accepted sample: its measurement by stages 1 to 6 with the distance source of R4 (MeasuredSampleFollowsStages says what
they make of it) and the timestamp of R117; the transition, in which the head's context becomes what R32, R33, R35 and R37 to
R41 say, with the Steer frame they produce and, where the state changes, a STATE event with its cause by R55, together with
DIST_SLIP on a slip; and then the lookup of the sample with its new tracking state. What an accepted sample cannot touch is
as it was, other heads' shares of the state among it (log 7 for the two events of a slip, log 36 for a timestamp below
0, log 15 for a Head Command that leaves the port's forward buffer as its transmission begins). -/
def Obligations.AcceptedSampleMovesContext : Prop :=
  ∀ (n : Head) (f : List Byte) (s : State) (e : HistoryEntry), frameBad f = false → frameKind f = 1 → frameDest f = 0 →
    frameLength f = 22 → (s.headTime.get n).history.getLast? = some e →
    let r := decodeSample (framePayload f)
    let c := s.ctx.get n
    let set := s.settings.get n
    let m := s.measured n r
    let ret := decide (set.threshold ≤ r.intensity) && !r.motorFault
    let new := Safety.contextAfter c set m ret (Safety.slips set m)
    let cause : StateCause := if c.state = .locked ∧ ret = true then .slip else if ret = true then .returnFound else .returnLost
    let port : HeadPort := match Safety.sampleSteer c new m e.index with
      | none => Safety.headUp s n
      | some payload => Safety.withSteer n (Safety.headUp s n) payload
    let moved : State := { s with ctx := s.ctx.set n new, ports := s.ports.set n port }
    let event : Event := .state c.state new.state cause
    let source : DistSource :=
      if ret = false then .none else if c.state = .locked then .interferometer else if r.admValid then .adm else .none
    Safety.samplesTaken s n → Safety.indexPasses s n r.index →
    m = measureSample (s.measure.get n) source m.timestamp r ∧
    (∀ x, (s.headTime.get n).history.find? (fun x => x.index = r.index) = some x → m.timestamp = x.time) ∧
    ((s.headTime.get n).history.find? (fun x => x.index = r.index) = none →
      ∀ x, (s.headTime.get n).history.head? = some x → m.timestamp = (x.time : Int) - x.period) ∧
    (∃ b : State, exec (.sampleFrame n f) s = .next (b.lookupSample n { m with tracking := new.state }) ∧
      (new.state = c.state → b = moved) ∧
      (new.state ≠ c.state → cause ≠ .slip → b = { moved with report := Safety.withEvent s.report (some n) event }) ∧
      (new.state ≠ c.state → cause = .slip → Safety.RaisedWith moved (some n) .distSlip m.index event b)) ∧
    ∃ t, exec (.sampleFrame n f) s = .next t ∧
      t.ctx = s.ctx.set n new ∧
      t.ports = s.ports.set n port ∧
      (∀ k, (s.headFaults.get n).first = some k → (t.headFaults.get n).first = some k) ∧
      ((s.headFaults.get n).first = none → c.state = .locked → new.state = .settling →
        (t.headFaults.get n).first = some ⟨.distSlip, s.time.timebase, m.index⟩) ∧
      (new.state ≠ c.state → ∃ h, t.report.headSlots.get n = some h ∧
        (h.superseded = true ∨ h.event = event)) ∧
      (∀ k, k ≠ n → t.headFaults.get k = s.headFaults.get k ∧ t.waiting.get k = s.waiting.get k ∧
        t.settle.get k = s.settle.get k ∧ t.behind.get k = s.behind.get k ∧
        t.report.headSlots.get k = s.report.headSlots.get k) ∧
      { t.lookup with walks := s.lookup.walks, rewalk := s.lookup.rewalk } = s.lookup ∧
      { t.mem with walkQueue := s.mem.walkQueue } = s.mem ∧
      { t.capture with waiting := s.capture.waiting } = s.capture ∧
      { t with
        ctx := s.ctx, ports := s.ports, headFaults := s.headFaults, waiting := s.waiting, settle := s.settle
        behind := s.behind, report := s.report, uplink := s.uplink, lookup := s.lookup, mem := s.mem
        capture := s.capture, freeCount := s.freeCount } = s

/-- What the lookup unit makes of a sample of a head that has no waiting sample: no position, no table, a hit with a copy of
the record and CELL_OVERFLOW where it overflowed, and on a miss a walk joined, a walk started or a pending start (R63, R64,
R66, R69, R78). -/
def Obligations.SampleLookedUp : Prop :=
  ∀ (s : State) (n : Head) (m : MeasuredSample), s.waiting.get n = none →
    (m.block = none → s.lookupSample n m = s.toCapture n ⟨m, .noPosition⟩) ∧
    (∀ b, m.block = some b → s.lookup.configured = false → s.lookupSample n m = s.toCapture n ⟨m, .noTable⟩) ∧
    (∀ b, m.block = some b → s.lookup.configured = true →
      let k := cellKeyOf s.lookup.shift b.pos
      (∀ r, some r ∈ s.lookup.records → r.key = k → (∀ r', some r' ∈ s.lookup.records → r'.key = k → r' = r) →
        s.lookupSample n m =
          (if r.overflow then Safety.raised s (some n) .cellOverflow m.index else s).toCapture n ⟨m, .record r⟩) ∧
      ((∀ r, some r ∈ s.lookup.records → r.key ≠ k) →
        (∀ w, s.lookup.walks.find? (fun w => w.key = k && !w.discarded) = some w → s.lookupSample n m = { s with
          lookup := { s.lookup with walks := s.lookup.walks.map fun v =>
            if v.charge = w.charge then { v with waiters := v.waiters ++ [n] } else v }
          waiting := s.waiting.set n (some ⟨m, false⟩) }) ∧
        ((∀ w ∈ s.lookup.walks, w.key = k → w.discarded = true) →
          s.lookupSample n m =
            if ∀ w ∈ s.lookup.walks, w.charge ≠ .head n then
              let b := cellHash s.lookup.bucketCount k
              { s with
                lookup := { s.lookup with
                  rewalk := s.lookup.rewalk.filter (· ≠ k)
                  walks := s.lookup.walks ++
                    [⟨.head n, k, [n], decide (k ∈ s.lookup.rewalk), [], [], false, some b, false, false⟩] }
                mem := { s.mem with walkQueue := s.mem.walkQueue ++ [⟨.head n, b, s.lookup.base + b * 64⟩] }
                waiting := s.waiting.set n (some ⟨m, false⟩) }
            else { s with waiting := s.waiting.set n (some ⟨m, true⟩) })))

/-- A head's next sample finishes its waiting sample as "lookup late" before it is itself looked up. With the key of the walk
waited on it takes the old one's place. Otherwise, its own key another or its position absent, the old sample leaves the
walk: a walk left with no waiter and no pin ends at once where it has no read outstanding, and with one it keeps its charge
until the read completes, without a waiter, and may be joined again; a pinned walk and one with other waiters go on (R63,
R65, R66, R73). -/
def Obligations.NextSampleFinishesLate : Prop :=
  ∀ (s : State) (n : Head) (m : MeasuredSample) (w : WaitingSample), s.waiting.get n = some w →
    let late (s : State) : State := { s with waiting := s.waiting.set n none }.toCapture n ⟨w.sample, .late⟩
    (w.pendingStart = true → s.lookupSample n m = (late s).lookupSample n m) ∧
    (w.pendingStart = false → ∀ k, s.lookup.walks.find? (fun v => v.waiters.contains n) = some k →
      let same := s.lookup.configured = true ∧ ∃ b, m.block = some b ∧ cellKeyOf s.lookup.shift b.pos = k.key
      let stay := k.waiters.filter (· ≠ n)
      let left := s.lookup.walks.map fun v => if v.charge = k.charge then { v with waiters := stay } else v
      let finished (ws : List Walk) : State := (late { s with lookup := { s.lookup with walks := ws } }).lookupSample n m
      (same → s.lookupSample n m = { late s with waiting := (late s).waiting.set n (some ⟨m, false⟩) }) ∧
      (¬same → (stay ≠ [] ∨ k.pin = true ∨ k.outstanding ≠ none) → s.lookupSample n m = finished left) ∧
      (¬same → stay = [] → k.pin = false → (∀ b, k.outstanding = some b →
        s.lookupSample n m = finished (s.lookup.walks.map fun v =>
          if v.charge = k.charge then { v with waiters := [] } else v)) ∧
        (k.outstanding = none → s.lookupSample n m = finished (s.lookup.walks.filter fun v => v.charge != k.charge))))

/-- A settle queue as R88 works it: kept for the same slot, pose generation and next index, begun afresh otherwise, never more
than 12 entries, and always of consecutive indices. -/
def Obligations.SettleQueueWorked : Prop :=
  ∀ (q : SettleQueue) (c : Candidate) (gen i : Nat) (pos : Vec3) (win : Bool),
    let kept := ∃ old e, q.candidate = some old ∧ old.bucket = c.bucket ∧ old.slot = c.slot ∧ q.poseGen = some gen ∧
      q.entries.getLast? = some e ∧ i = (e.index + 1) % 65536
    let q' := q.push c gen i pos win
    (kept → q'.candidate = q.candidate ∧ q'.poseGen = q.poseGen ∧
      (q.entries.length < 12 → q'.entries = q.entries ++ [⟨i, pos, win⟩]) ∧
      (q.entries.length = 12 → q'.entries = q.entries.tail ++ [⟨i, pos, win⟩])) ∧
    (¬kept → q' = ⟨[⟨i, pos, win⟩], some c, some gen⟩) ∧
    (q.entries.length ≤ 12 → q'.entries.length ≤ 12) ∧
    (q.entries.IsChain (fun a b => b.index = (a.index + 1) % 65536) →
      q'.entries.IsChain (fun a b => b.index = (a.index + 1) % 65536))

/-- A sample at the capture unit: behind a waiting attempt of its head it waits; not eligible it clears the settle queue and is
handed on; eligible it is worked in and makes an attempt wait where the condition but for the trigger holds, and is handed on
otherwise (R86 to R88, R90 to R92, R98; log 12 for the trigger). -/
def Obligations.SampleAtCaptureUnit : Prop :=
  ∀ (s : State) (n : Head) (h : Handed),
    ((∃ a ∈ s.capture.waiting, a.head = n) →
      s.toCapture n h = { s with behind := s.behind.set n (s.behind.get n ++ [h]) }) ∧
    ((∀ a ∈ s.capture.waiting, a.head ≠ n) →
      ((h.sample.tracking ≠ .locked ∨ s.service ≠ .active ∨ SampleFlags.none ≠ h.sample.flags ∨ h.sample.block = none ∨
          (∀ r, h.result = .record r → r.incomplete = true ∨ ∀ p ∈ r.points, p.state = .disabled)) →
        s.toCapture n h = { s with settle := s.settle.set n ⟨[], none, none⟩ }.reportSample n h) ∧
      (∀ r b p, h.sample.tracking = .locked → s.service = .active → h.sample.flags = SampleFlags.none →
        h.sample.block = some b → h.result = .record r → r.incomplete = false → nearestPoint b.pos r.points = some p →
        let q := (s.settle.get n).push ⟨p.bucket, p.slot, p.id⟩ b.gen h.sample.index b.pos (inWindow b.pos p)
        let t : State := { s with settle := s.settle.set n q }
        let settled := p.state = .open ∧ p.settle ≤ q.entries.length ∧
          ∀ e ∈ q.entries.drop (q.entries.length - p.settle), e.inWindow = true
        (settled → s.toCapture n h =
          { t with capture := { s.capture with waiting := s.capture.waiting ++ [⟨n, h, p⟩] } }) ∧
        (¬settled → s.toCapture n h = t.reportSample n h)))

/-- The 26 bytes of a Position payload: the nearest point with its clamped deviation, or no point without a position, without a
record, or with every point DISABLED (R26, R154). And the decimation count chooses every D-th sample; a chosen one becomes a
Position frame at the newest end where a Position frame may enter, doubling every effective decimation if it is the 36th,
and is dropped otherwise (R158, R160, R162). -/
def Obligations.PositionReportsDecimated : Prop :=
  (∀ p ∈ [(CtxState.offline, 0), (.disabled, 1), (.locked, 2), (.coasting, 3), (.searching, 4), (.settling, 5), (.lost, 6),
      (.parked, 7)], p.1.code = p.2) ∧
  (∀ (n : Head) (h : Handed),
    let pos : Vec3 := match h.sample.block with
      | some b => b.pos
      | none => ⟨0, 0, 0⟩
    let shown : Option Point := match h.sample.block, h.result with
      | some b, .record r => nearestPoint b.pos r.points
      | _, _ => none
    let dev (b q : Int) : List Byte := intLE 2 (max (-32767) (min 32767 (b - q)))
    let point : List Byte := match shown with
      | some p => natLE 2 p.id ++ dev pos.x p.nominal.x ++ dev pos.y p.nominal.y ++ dev pos.z p.nominal.z
      | none => List.replicate 8 0
    let one (b : Bool) (v : Nat) : Nat := if b then v else 0
    let f := h.sample.flags
    let lookup : Nat := match h.result with
      | .noPosition => 0
      | .noTable => 1
      | .record r => 2 + one shown.isSome 4 + one r.incomplete 8 + one r.overflow 16
      | .late => 3
    positionPayload n h = [byteOf (headNumber n)] ++ natLE 2 h.sample.index ++ [byteOf h.sample.tracking.code] ++
      intLE 4 pos.x ++ intLE 4 pos.y ++ intLE 4 pos.z ++ point ++
      [byteOf (one f.psdClamp 1 + one f.elevClamp 2 + one f.distRange 4 + one f.distCoarse 8 + one f.coordSat 16 +
        one f.noDist 32), byteOf lookup] ∧
    (h.sample.block = none ∨ h.result = .noPosition ∨ h.result = .noTable ∨ h.result = .late ∨
      (∃ r, h.result = .record r ∧ ∀ p ∈ r.points, p.state = .disabled) ↔ shown = none)) ∧
  ∀ (s : State) (n : Head) (h : Handed),
    let d := s.report.decimation.get n
    let zeroed := s.report.decimation.set n { d with count := 0 }
    (positionPayload n h).length = 26 ∧
    (d.count + 1 < d.effective → s.reportSample n h = { s with report := { s.report with
      decimation := s.report.decimation.set n { d with count := d.count + 1 } } }) ∧
    (d.effective ≤ d.count + 1 → (40 ≤ s.report.posCount ∨ 48 ≤ s.report.occupancy) →
      s.reportSample n h = { s with report := { s.report with decimation := zeroed } }) ∧
    (d.effective ≤ d.count + 1 → s.report.posCount < 40 → s.report.occupancy < 48 →
      let queue := s.report.queue ++ [⟨.position, positionPayload n h⟩]
      s.reportSample n h = { s with
        report := Safety.risen { s.report with queue := queue, decimation := zeroed }
        uplink := s.uplink.choose queue })


/-! ### Requests and their answers (Chapter 9) -/

/-- A command that takes requests changes nothing while a request is in hand, an answer is held or none waits, nor where the
oldest is of another kind; a length that the kind does not admit is answered BAD_LENGTH and an unknown kind UNKNOWN_KIND, with
nothing else changed (R156, R169, R171, R172; log 14 for the rows that share a kind, log 1 for the rows that change
nothing). -/
def Obligations.RequestsTakenInTurn : Prop :=
  (∀ (kind : Nat) (c : Instr) (s : State), (kind, c) ∈ Safety.requestRows ∨ c = .unknownKindRequest →
    s.mgmt.inHand ≠ none ∨ s.mgmt.held ≠ none ∨ s.uplink.requests = [] → exec c s = .next s) ∧
  (∀ (kind : Nat) (c : Instr) (s : State) (r : Request) (rest : List Request), (kind, c) ∈ Safety.requestRows →
    Safety.Next s r rest →
    (requestKind r.payload ≠ some kind → exec c s = .next s) ∧
    (requestKind r.payload = some kind → lengthAdmitted kind r.payload = false →
      Safety.Answers c s rest (Safety.answer r.tag kind .badLength []) s)) ∧
  (∀ (s : State) (r : Request) (rest : List Request), Safety.Next s r rest →
    (r.payload = [] → Safety.Answers .unknownKindRequest s rest (Safety.answer r.tag 0 .badLength []) s) ∧
    (∀ k, requestKind r.payload = some k →
      (k = 0 ∨ 24 < k → Safety.Answers .unknownKindRequest s rest (Safety.answer r.tag k .unknownKind []) s) ∧
      (1 ≤ k → k ≤ 24 → exec .unknownKindRequest s = .next s))) ∧
  (∀ k n : Nat, (k, n) ∈ [(1, 2), (2, 3), (3, 2), (4, 3), (6, 2), (7, 21), (8, 28), (10, 50), (11, 10), (12, 5), (13, 13),
      (14, 2), (16, 7), (17, 1), (18, 7), (19, 7), (20, 5), (22, 2), (23, 2), (24, 1)] →
    ∀ p, lengthAdmitted k p = true ↔ p.length = n) ∧
  (∀ p, lengthAdmitted 5 p = true ↔ p.length = 6 ∧ 1 ≤ natAt 5 1 p ∧ natAt 5 1 p ≤ 48) ∧
  (∀ p, lengthAdmitted 9 p = true ↔ 6 ≤ p.length ∧ p.length ≤ 52 ∧ p.length % 2 = 0) ∧
  (∀ p, lengthAdmitted 15 p = true ↔ 6 ≤ p.length ∧ p.length ≤ 53) ∧
  (∀ p, lengthAdmitted 21 p = true ↔ p.length = 3 ∧ natAt 2 1 p ≠ 2 ∨ p.length = 11 ∧ 2 ≤ natAt 2 1 p)

/-- A read request is answered at once: OK with its data, or BAD_VALUE where its section, part, head or subject does not
exist; nothing else changes but the draw of an invalid record's key bytes (log 10). The data of every section is the items of
R174 in their order, each in the width that log 29 deduces from R173, and has one length, at most 58 bytes (R62, R122, R173,
R174, R181; log 27 for the drain reads outstanding, log 38 for the requests waiting for WRITEBACK, log 41 for a next epoch
beyond the timebase's top value). -/
def Obligations.ReadsAnswered : Prop :=
  (∀ (s : State) (r : Request) (rest : List Request),
    let p := r.payload
    let reads (c : Instr) (kind : Nat) (data : Option (List Byte)) (s' : State) : Prop :=
      Safety.Answers c s rest (match data with
        | some d => Safety.answer r.tag kind .ok d
        | none => Safety.answer r.tag kind .badValue []) s'
    (Safety.Takes s 1 r rest → reads .readPart 1 (partData s (natAt 1 1 p)) s) ∧
    (Safety.Takes s 2 r rest → reads .readHead 2 (match headOf (natAt 1 1 p) with
      | some n => headData s n (natAt 2 1 p)
      | none => none) s) ∧
    (Safety.Takes s 3 r rest → reads .readTime 3 (timeData s (natAt 1 1 p)) s) ∧
    (Safety.Takes s 4 r rest →
      (32 ≤ natAt 1 1 p → reads .readCell 4 none s) ∧
      (∀ c key, s.lookup.records[natAt 1 1 p]? = some (some c) → natAt 1 1 p < 32 →
        reads .readCell 4 (cellData key (some c) (natAt 2 1 p)) s) ∧
      (s.lookup.records[natAt 1 1 p]? = some none → natAt 1 1 p < 32 → ∃ key,
        reads .readCell 4 (cellData key none (natAt 2 1 p)) { s with freeCount := s.freeCount + 1 })) ∧
    (Safety.Takes s 6 r rest → reads .readFault 6 (if natAt 1 1 p = 255 then some (faultData s.partFault)
      else (headOf (natAt 1 1 p)).map fun n => faultData (s.headFaults.get n)) s)) ∧
  (∀ (s : State) (n : Head) (f : FaultRecord) (key : BitVec 48) (c : Option CellRecord) (k : Nat),
    (partData s k).map List.length = [16, 35, 21, 21][k]? ∧ (headData s n k).map List.length = [48, 52, 45, 50][k]? ∧
    (timeData s k).map List.length = [35, 48, 51, 51, 51, 51][k]? ∧
    (cellData key c k).map List.length = [20, 38, 38, 38, 38][k]? ∧ (faultData f).length = 27) ∧
  (∀ s : State,
    let mark (b : Bool) : List Byte := [if b then 1 else 0]
    let opt (w : Nat) (o : Option (List Byte)) : List Byte := match o with
      | some bs => 1 :: bs
      | none => 0 :: List.replicate w 0
    let each (f : Head → List Byte) : List Byte := f .h0 ++ f .h1 ++ f .h2 ++ f .h3
    let l := s.lookup
    let sp := s.spill
    let m := s.mem
    let r := s.report
    let t := s.time
    partData s 0 = some (natLE 1 s.service.code ++ each (fun n => mark (s.ports.get n).up ++ natLE 2 (s.ports.get n).bad) ++
      mark s.uplink.up ++ natLE 2 s.uplink.bad) ∧
    partData s 1 = some (mark l.configured ++ natLE 4 l.base ++ natLE 4 l.bucketCount ++ natLE 1 l.shift ++
      natLE 1 (l.records.countP Option.isSome) ++ natLE 1 l.pinCount ++ natLE 1 l.victim ++ natLE 1 l.walks.length ++
      natLE 1 l.rewalk.length ++ mark sp.configured ++ natLE 4 sp.base ++ natLE 2 sp.readPos ++ natLE 2 sp.writePos ++
      natLE 2 sp.count ++ natLE 1 sp.writes.length ++ natLE 1 (sp.drains.countP fun d => d.data.isNone) ++
      natLE 4 (match s.capture.nextNumber with
        | some k => k
        | none => 0) ++
      natLE 1 s.capture.writeback.length ++ opt 1 (s.capture.attempt.map fun n => [byteOf (headNumber n)])) ∧
    partData s 2 = some (natLE 1 m.state.code ++ mark m.quiesce ++ natLE 1 m.interleave.code ++ natLE 1 m.refreshInterval ++
      natLE 1 m.timing.activate ++ natLE 1 m.timing.precharge ++ natLE 1 m.timing.access ++ natLE 2 m.timing.refresh ++
      natLE 2 m.timing.exit ++ mark m.x1 ++ mark m.x2 ++ mark m.x3 ++ natLE 1 m.owed ++
      opt 1 (m.running.map fun q => match q.access with
        | .walk _ => [0]
        | .writeback _ _ => [1]
        | .spill _ => [2]
        | .mgmt _ => [3]
        | .refresh => [4]) ++
      natLE 1 m.walkQueue.length ++ natLE 1 (s.capture.writeback.countP fun e => e.phase = .waiting) ++
      natLE 1 m.spillQueue.length ++ natLE 1 (if m.mgmt.isSome then 1 else 0)) ∧
    partData s 3 = some (natLE 1 (r.queue.length + r.reserved) ++ natLE 1 (r.queue.countP fun f => f.kind = .position) ++
      natLE 1 r.reserved ++ natLE 1 (slotCode r.partSlot) ++ each (fun n => natLE 1 (slotCode (r.headSlots.get n))) ++
      [match r.visiting with
        | some n => byteOf (headNumber n)
        | none => 255] ++
      each (fun n => natLE 1 (r.decimation.get n).configured ++ natLE 1 (r.decimation.get n).effective ++
        natLE 1 (r.decimation.get n).count)) ∧
    (∃ epoch : List Byte, epoch.length = 8 ∧ (t.nextEpoch < 2 ^ 64 → epoch = natLE 8 t.nextEpoch) ∧
      timeData s 0 = some (natLE 8 t.timebase ++ natLE 1 t.refState.code ++ mark t.onceLocked ++ natLE 4 t.lockUp ++
        mark t.present ++ natLE 1 t.quality.code ++ natLE 2 t.syncIndex ++ epoch ++ natLE 4 t.period ++
        opt 4 (t.pendingSync.map fun c => natLE 4 c.period))) ∧
    timeData s 1 = some (each (fun n => natLE 4 (s.headTime.get n).phase) ++
      each (fun n => natLE 4 (s.headTime.get n).effPhase) ++
      each (fun n => match t.pendingSync with
        | some c => natLE 4 (c.phases.get n)
        | none => [0, 0, 0, 0])) ∧
    (timeData s 2 = some (timeHistory s .h0) ∧ timeData s 3 = some (timeHistory s .h1) ∧
      timeData s 4 = some (timeHistory s .h2) ∧ timeData s 5 = some (timeHistory s .h3)) ∧
    (∀ n,
      let c := s.ctx.get n
      let q := s.measure.get n
      let set := s.settings.get n
      let d := s.report.decimation.get n
      let settle := s.settle.get n
      let locked (x : LockedSample) : List Byte := intLE 4 x.az ++ intLE 4 x.el ++ natLE 2 x.index
      let vec (v : Vec3) : List Byte := intLE 4 v.x ++ intLE 4 v.y ++ intLE 4 v.z
      headData s n 0 = some (natLE 1 c.state.code ++ natLE 2 c.timer ++ natLE 1 c.silence ++ mark c.heard ++
        opt 2 (c.lastIndex.map (natLE 2)) ++ opt 10 (c.newest.map locked) ++ opt 10 (c.previous.map locked) ++
        intLE 4 c.velAz ++ intLE 4 c.velEl ++ opt 8 (c.predicted.map fun p => intLE 4 p.1 ++ intLE 4 p.2) ++
        natLE 1 c.attempts) ∧
      headData s n 1 = some (opt 16 (c.search.map fun x => intLE 4 x.centreAz ++ intLE 4 x.centreEl ++ natLE 2 x.step ++
          natLE 1 x.rings ++ natLE 1 x.dwell ++ natLE 1 x.ring ++ natLE 2 x.pos ++ mark x.centreFirst) ++
        opt 19 (c.latest.map fun x => natLE 2 x.index ++ intLE 4 x.az ++ intLE 4 x.el ++ natLE 4 x.adm ++
          mark x.admValid ++ intLE 4 x.count) ++
        opt 12 ((s.headTime.get n).trigger.map fun x => natLE 8 x.edgeTime ++ natLE 2 x.edgeIndex ++
          natLE 2 x.periodsLeft) ++
        natLE 2 (s.headTime.get n).window) ∧
      headData s n 2 = some (natLE 4 q.countScale ++ natLE 1 q.deadband ++ natLE 4 q.distanceMax ++ intLE 8 q.anchor ++
        natLE 1 set.threshold ++ natLE 1 set.coastLimit ++ natLE 1 set.settleSelect ++ natLE 2 set.searchStep ++
        natLE 1 set.searchRings ++ natLE 1 set.searchDwell ++ natLE 4 set.maxRate ++ natLE 2 set.slipLimit ++
        natLE 1 set.silenceLimit ++ natLE 1 d.configured ++ natLE 1 d.effective ++ natLE 1 d.count ++
        natLE 1 settle.entries.length ++
        opt 5 (settle.candidate.map fun x => natLE 2 x.id ++ natLE 2 x.bucket ++ natLE 1 x.slot.code) ++
        opt 2 (settle.poseGen.map (natLE 2)) ++
        natLE 1 (settle.entries.reverse.takeWhile fun e => e.inWindow).length) ∧
      headData s n 3 = some (vec q.rotation.row1 ++ vec q.rotation.row2 ++ vec q.rotation.row3 ++ vec q.translation ++
        natLE 2 q.poseGen)) ∧
    (∀ (key : BitVec 48) (c : CellRecord) (k : Nat),
      let marks : List Byte := [1] ++ mark c.pinned ++ intLE 2 c.key.cx ++ intLE 2 c.key.cy ++ intLE 2 c.key.cz ++
        mark c.incomplete ++ mark c.overflow
      let none_ : List Byte := [0, 0] ++ natLE 6 key.toNat ++ [0, 0]
      cellData key (some c) 0 = some (marks ++ (byteOf c.visited.length ::
        ((c.visited.flatMap fun b => natLE 2 b) ++ List.replicate 8 0).take 8) ++ [byteOf c.points.length]) ∧
      cellData key none 0 = some (none_ ++ List.replicate 10 0) ∧
      (k < 4 → cellData key (some c) (k + 1) = some (marks ++ opt 27 (c.points[k]?.map fun p =>
          natLE 2 p.bucket ++ natLE 1 p.slot.code ++ natLE 2 p.id ++ intLE 4 p.nominal.x ++ intLE 4 p.nominal.y ++
            intLE 4 p.nominal.z ++ natLE 2 p.tolerance ++ natLE 1 p.settle ++ natLE 1 p.mode.code ++ natLE 1 p.state.code ++
            natLE 1 p.capHead ++ natLE 4 p.capNumber)) ∧
        cellData key none (k + 1) = some (none_ ++ List.replicate 28 0)))) ∧
  ((∀ p ∈ [(ServiceState.start, 0), (.init, 1), (.active, 2), (.hold, 3), (.quiescing, 4), (.standby, 5), (.waking, 6)],
      p.1.code = p.2) ∧
    (∀ p ∈ [(MemState.uninitialized, 0), (.initializing, 1), (.ready, 2), (.selfRefresh, 3), (.exiting, 4)],
      p.1.code = p.2) ∧
    (∀ p ∈ [(RefState.free, 0), (.acquiring, 1), (.locked, 2), (.holdover, 3)], p.1.code = p.2) ∧
    (∀ p ∈ [(PointState.open, 0), (.captured, 1), (.disabled, 2)], p.1.code = p.2) ∧
    Slot.a.code = 0 ∧ Slot.b.code = 1 ∧ CaptureMode.auto.code = 0 ∧ CaptureMode.triggered.code = 1 ∧ slotCode none = 0 ∧
    ∀ h, slotCode (some h) = h.event.code) ∧
  (∀ (s : State) (n : Head), timeHistory s n = natLE 8 s.time.timebase ++ natLE 2 s.time.syncIndex ++
    (byteOf (s.headTime.get n).history.length ::
      (((s.headTime.get n).history.flatMap fun (e : HistoryEntry) => natLE 2 e.index ++ natLE 8 e.time) ++ List.replicate 40 0).take 40)) ∧
  (∀ (first : FirstFault) (further : List FaultKind), further.length ≤ 8 → faultData ⟨some first, further⟩ =
    [1, byteOf first.kind.code] ++ natLE 8 first.time ++ natLE 8 first.detail ++ [byteOf further.length] ++
      further.map (fun k => byteOf k.code) ++ List.replicate (8 - further.length) 0) ∧
  (faultData ⟨none, []⟩ = List.replicate 27 0)

/-- SYNC_CONFIG, SET_ARBITER, MEM_CONFIG and SPILL_CONFIG: the first status that applies, and with OK the values stored, each
clamped into its range (R104, R113, R126, R127, R134). -/
def Obligations.PartSettingsStored : Prop :=
  ∀ (s : State) (r : Request) (rest : List Request),
    let p := r.payload
    let answered (c : Instr) (kind : Nat) (st : Status) (s' : State) : Prop :=
      Safety.Answers c s rest (Safety.answer r.tag kind st []) s'
    (Safety.Takes s 7 r rest → answered .syncConfig 7 .ok { s with time := { s.time with
      pendingSync := some ⟨max 20000 (min 1000000 (natAt 1 4 p)),
        ⟨natAt 5 4 p, natAt 9 4 p, natAt 13 4 p, natAt 17 4 p⟩⟩ } }) ∧
    (Safety.Takes s 14 r rest → answered .setArbiter 14 .ok { s with mem := { s.mem with
      x1 := (natAt 1 1 p).testBit 0, x2 := (natAt 1 1 p).testBit 1, x3 := (natAt 1 1 p).testBit 2 } }) ∧
    (Safety.Takes s 13 r rest →
      (s.service ≠ .start → answered .memConfig 13 .wrongState s) ∧
      (s.service = .start → 3 < natAt 1 1 p → answered .memConfig 13 .badValue s) ∧
      (s.service = .start →
        ∀ i, (natAt 1 1 p, i) ∈ [(0, Interleave.k2), (1, Interleave.k8), (2, Interleave.k32), (3, Interleave.m1)] →
        answered .memConfig 13 .ok { s with mem := { s.mem with
          interleave := i, refreshInterval := max 1 (min 64 (natAt 2 1 p))
          timing := ⟨max 10 (min 60 (natAt 3 2 p)), max 10 (min 60 (natAt 5 2 p)), max 10 (min 80 (natAt 7 2 p)),
            max 60 (min 350 (natAt 9 2 p)), max 100 (min 1000 (natAt 11 2 p))⟩ } })) ∧
    (Safety.Takes s 12 r rest →
      let base := natAt 1 4 p
      let st : Status :=
        if s.service ≠ .start ∧ s.service ≠ .hold then .wrongState
        else if 0 < s.spill.count ∨ s.capture.attempt ≠ none ∨ s.spill.writes ≠ [] ∨ s.spill.drains ≠ [] then .wrongState
        else if base % 32768 ≠ 0 then .align
        else if 67108864 ≤ base then .address
        else if s.lookup.configured = true ∧ base < s.lookup.base + s.lookup.bucketCount * 64 ∧
          s.lookup.base < base + 32768 then .address
        else .ok
      answered .spillConfig 12 st (if st = .ok then
        { s with spill := { s.spill with configured := true, base := base, readPos := 0, writePos := 0, count := 0 } }
        else s))

/-- HEAD_CONFIG, WRITE_COMP and WRITE_POSE: BAD_VALUE for a head, scale, axis or range that does not exist; otherwise the
values stored, each clamped into its range. A pose takes the next pose generation, which its answer carries, and clears its
head's settle queue. A waiting attempt of the head is dropped: it leaves the attempts that wait, those of other heads stay,
and its sample is handed on, with the samples behind it after it; with none behind, the settle queue is empty (R2, R7, R21,
R30, R89, R92, R98, R118, R161; log 24 for the answer after the dropped attempt's reports). -/
def Obligations.HeadSettingsStored : Prop :=
  ∀ (s : State) (r : Request) (rest : List Request),
    let p := r.payload
    let byte (lo hi off len : Nat) : Nat := max lo (min hi (natAt off len p))
    let refused (c : Instr) (kind : Nat) : Prop := Safety.Answers c s rest (Safety.answer r.tag kind .badValue []) s
    (Safety.Takes s 8 r rest →
      (3 < natAt 1 1 p ∨ natAt 2 4 p = 0 → refused .headConfig 8) ∧
      (∀ n, headNumber n = natAt 1 1 p → 0 < natAt 2 4 p →
        Safety.Answers .headConfig s rest (Safety.answer r.tag 8 .ok []) { s with
          measure := s.measure.set n { s.measure.get n with
            countScale := natAt 2 4 p, deadband := byte 0 15 7 1, distanceMax := byte 1000000 120000000 8 4 }
          settings := s.settings.set n ⟨byte 1 255 6 1, byte 1 255 12 1, byte 0 3 13 1, byte 1 65535 14 2, byte 1 32 16 1,
            byte 1 16 17 1, byte 1 1000000 18 4, byte 1 65535 22 2, byte 1 255 24 1⟩
          report := { s.report with decimation := s.report.decimation.set n { s.report.decimation.get n with
            configured := byte 1 64 25 1, effective := byte 1 64 25 1 } }
          headTime := s.headTime.set n { s.headTime.get n with window := byte 1 4095 26 2 } })) ∧
    (Safety.Takes s 9 r rest →
      let axis := natAt 2 1 p
      let first := natAt 3 1 p
      let entries := (List.range ((p.length - 4) / 2)).map fun i => intAt (4 + 2 * i) 2 p
      let written (t : List Int) : List Int := t.take first ++ entries ++ t.drop (first + entries.length)
      (3 < natAt 1 1 p ∨ 1 < axis ∨ 256 < first + entries.length → refused .writeComp 9) ∧
      (∀ n, headNumber n = natAt 1 1 p → axis ≤ 1 → first + entries.length ≤ 256 →
        Safety.Answers .writeComp s rest (Safety.answer r.tag 9 .ok []) { s with
          measure := s.measure.set n (if axis = 0
            then { s.measure.get n with compAz := written (s.measure.get n).compAz }
            else { s.measure.get n with compEl := written (s.measure.get n).compEl }) })) ∧
    (Safety.Takes s 10 r rest →
      (3 < natAt 1 1 p → refused .writePose 10) ∧
      (∀ n, headNumber n = natAt 1 1 p →
        let gen := ((s.measure.get n).poseGen + 1) % 65536
        let posed := s.measure.set n { s.measure.get n with
          rotation := (paramPose p).1, translation := (paramPose p).2, poseGen := gen }
        let f := Safety.answer r.tag 10 .ok (natLE 2 gen)
        ((∀ a ∈ s.capture.waiting, a.head ≠ n) →
          Safety.Answers .writePose s rest f { s with measure := posed, settle := s.settle.set n ⟨[], none, none⟩ }) ∧
        (let dropped := s.capture.waiting.filter fun a => a.head = n
         let cleared : State := { s with
           measure := posed, settle := s.settle.set n ⟨[], none, none⟩
           capture := { s.capture with waiting := s.capture.waiting.filter fun a => a.head ≠ n } }
         Safety.Answers .writePose s rest f (dropped.foldl State.endAttempt cleared) ∧
         (s.behind.get n = [] → Safety.Answers .writePose s rest f
           (dropped.foldl (fun b a => b.reportSample n a.handed) cleared))) ∧
        (∃ t, exec .writePose s = .next t ∧ t.measure = posed ∧ Safety.Answered t f ∧ t.uplink.requests = rest ∧
          (t.capture.waiting.filter fun a => a.head ≠ n) = (s.capture.waiting.filter fun a => a.head ≠ n) ∧
          (s.behind.get n = [] → t.capture.waiting = (s.capture.waiting.filter fun a => a.head ≠ n) ∧
            t.settle.get n = ⟨[], none, none⟩ ∧ t.behind.get n = []) ∧
          (∀ k, k ≠ n → t.settle.get k = s.settle.get k ∧ t.behind.get k = s.behind.get k) ∧
          { t.capture with waiting := s.capture.waiting } = s.capture ∧
          { t with
            measure := s.measure, settle := s.settle, behind := s.behind, capture := s.capture, report := s.report
            uplink := s.uplink, mgmt := s.mgmt } = s)))

/-- TABLE_CONFIG: the first status that applies, or the request stays in hand; applied once the write-back queue is empty, it
replaces the configuration, frees every record, ends every walk and hands every waiting sample to the capture unit as "lookup
late", heads in some order, before it is answered (R57, R58, R65, R73; log 8 for the order, log 24 for the answer). That
TABLE_CONFIG_APPLY changes nothing while an entry is in the write-back queue is the model's reading of a command given too
early (log 1). -/
def Obligations.TableConfigured : Prop :=
  (∀ (s : State) (r : Request) (rest : List Request), Safety.Takes s 11 r rest →
    let base := natAt 1 4 r.payload
    let count := natAt 5 4 r.payload
    let shift := natAt 9 1 r.payload
    let refused (st : Status) : Prop := Safety.Answers .tableConfig s rest (Safety.answer r.tag 11 st []) s
    if s.service ≠ .start ∧ s.service ≠ .hold then refused .wrongState
    else if shift < 16 ∨ 22 < shift then refused .badValue
    else if count ∉ [256, 512, 1024, 2048, 4096, 8192, 16384, 32768, 65536] then refused .badValue
    else if base % (count * 64) ≠ 0 then refused .align
    else if 67108864 ≤ base then refused .address
    else if s.spill.configured = true ∧ s.spill.base < base + count * 64 ∧ base < s.spill.base + 32768 then refused .address
    else exec .tableConfig s = .next (Safety.kept s r.tag rest (.tableConfig base count shift))) ∧
  (∀ (s : State) (tag : Byte) (base count shift : Nat), s.mgmt.inHand = some ⟨tag, .tableConfig base count shift⟩ →
    s.mgmt.held = none →
    (s.capture.writeback ≠ [] → exec .tableConfigApply s = .next s) ∧
    (s.capture.writeback = [] → (s.lookup.walks.map Walk.charge).Nodup →
      let applied : Lookup := { s.lookup with
        configured := true, base := base, bucketCount := count, shift := shift
        records := List.replicate 32 none, victim := 0, rewalk := []
        walks := (s.lookup.walks.filter fun w => w.outstanding.isSome).map fun w =>
          { w with pin := false, waiters := [], discarded := true } }
      let f := Safety.answer tag 11 .ok []
      ((∀ n, s.waiting.get n = none) → exec .tableConfigApply s = .next (Safety.given { s with lookup := applied } f)) ∧
      (∃ (order : List Head) (k : Nat), order.Nodup ∧ (∀ n, n ∈ order ↔ s.waiting.get n ≠ none) ∧
        exec .tableConfigApply s =
          .next (Safety.given (order.foldl Safety.finishedLate { s with lookup := applied, freeCount := k }) f)) ∧
      (∃ t, exec .tableConfigApply s = .next t ∧ t.lookup = applied ∧ t.waiting = .all none ∧ Safety.Answered t f ∧
        (∀ n, s.waiting.get n = none → t.settle.get n = s.settle.get n ∧ t.behind.get n = s.behind.get n) ∧
        { t with
          lookup := s.lookup, waiting := s.waiting, settle := s.settle, behind := s.behind, report := s.report
          uplink := s.uplink, mgmt := s.mgmt, freeCount := s.freeCount } = s)))

/-! ### Table requests (Chapters 3, 4 and 6) -/

/-- MEM_READ and MEM_WRITE: the first status that applies; a write over a pending write-back stays in hand, and is resumed
once none overlaps it; otherwise the access is the MGMT requester's (R102, R132, R138, R139). That MEM_WRITE_RESUME changes
nothing while one overlaps it, or with another request in hand, is the model's choice (log 1). -/
def Obligations.MemoryAccessRequested : Prop :=
  ∀ (s : State),
    let overlapped (a n : Nat) : Prop := ∃ e ∈ s.capture.writeback,
      a < s.lookup.base + e.bucket * 64 + slotOffset e.slot + 30 ∧ s.lookup.base + e.bucket * 64 + slotOffset e.slot < a + n
    let asked (b : State) (m : MgmtRequest) : State := { b with mem := { b.mem with mgmt := some m } }
    (∀ r rest, Safety.Takes s 5 r rest →
      let a := natAt 1 4 r.payload
      let n := natAt 5 1 r.payload
      let refused (st : Status) : Prop := Safety.Answers .memRead s rest (Safety.answer r.tag 5 st []) s
      if s.service = .standby then refused .wrongState
      else if s.mem.state ≠ .ready then refused .notReady
      else if 67108864 < a + n then refused .address
      else exec .memRead s = .next (asked (Safety.kept s r.tag rest (.memRead a n)) (.read a n))) ∧
    (∀ r rest, Safety.Takes s 15 r rest →
      let a := natAt 1 4 r.payload
      let d := r.payload.drop 5
      let refused (st : Status) : Prop := Safety.Answers .memWrite s rest (Safety.answer r.tag 15 st []) s
      if s.service = .standby then refused .wrongState
      else if s.mem.state ≠ .ready then refused .notReady
      else if 67108864 < a + d.length then refused .address
      else if s.spill.configured = true ∧ a < s.spill.base + 32768 ∧ s.spill.base < a + d.length then refused .address
      else
        (overlapped a d.length → exec .memWrite s = .next (Safety.kept s r.tag rest (.memWriteBlocked a d))) ∧
        (¬overlapped a d.length →
          exec .memWrite s = .next (asked (Safety.kept s r.tag rest (.memWrite a d)) (.write a d)))) ∧
    (∀ tag a d, s.mgmt.inHand = some ⟨tag, .memWriteBlocked a d⟩ →
      (overlapped a d.length → exec .memWriteResume s = .next s) ∧
      (¬overlapped a d.length → exec .memWriteResume s =
        .next (asked { s with mgmt := { s.mgmt with inHand := some ⟨tag, .memWrite a d⟩ } } (.write a d)))) ∧
    (∀ h, s.mgmt.inHand = some h → (∀ a d, h.work ≠ .memWriteBlocked a d) → exec .memWriteResume s = .next s)

/-- MEM_READ_DONE answers with the bytes table memory holds. MEM_WRITE_DONE stores its bytes and no other, frees every record
that lists a bucket it overlaps, puts the keys of the pinned ones on the re-walk list in some order, and restarts every live
walk that has touched one (R74, R81, R138, R139; log 23 for the order). -/
def Obligations.MemoryAccessesComplete : Prop :=
  (∀ (s : State) (tag : Byte) (a n g d : Nat), s.mem.running = some ⟨.mgmt (.read a n), g, d⟩ →
    s.mgmt = ⟨some ⟨tag, .memRead a n⟩, none⟩ → a + n ≤ 67108864 →
    exec .memReadDone s = .next (Safety.given { s with mem := { s.mem with running := none } }
      (Safety.answer tag 5 .ok ((List.range n).map fun i => s.readByte (a + i))))) ∧
  (∀ (s : State) (tag : Byte) (a g d : Nat) (bs : List Byte), s.mem.running = some ⟨.mgmt (.write a bs), g, d⟩ →
    s.mgmt = ⟨some ⟨tag, .memWrite a bs⟩, none⟩ → a + bs.length ≤ 67108864 → Safety.memoryCanonical s = true →
    (s.lookup.walks.map Walk.charge).Nodup →
    let l := s.lookup
    let hit (b : Nat) : Bool := a < l.base + b * 64 + 64 && l.base + b * 64 < a + bs.length
    let stale (w : Walk) : Bool := !w.discarded && (w.visited.any hit || w.outstanding.any hit)
    ∃ cells keys k,
      (∀ x, { s with cells := cells }.readByte x = if a ≤ x ∧ x < a + bs.length then bs.getD (x - a) 0 else s.readByte x) ∧
      keys.Perm (l.records.filterMap fun r =>
        r.bind fun r => if r.pinned && r.visited.any hit then some r.key else none) ∧
      exec .memWriteDone s = .next (Safety.given { s with
        cells := cells, freeCount := k
        lookup := { l with
          records := l.records.map fun r => r.filter fun r => !r.visited.any hit
          rewalk := l.rewalk ++ keys
          walks := l.walks.map fun w => if stale w then Safety.restarted l w else w }
        mem := { s.mem with
          running := none, walkQueue := s.mem.walkQueue ++ Safety.restartReads l (l.walks.filter stale) } }
        (Safety.answer tag 15 .ok [])))

/-- PURGE_CELL, PURGE_ALL and UNPIN_CELL: what becomes of the records, the walks and the re-walk list (R73, R74, R77, R79,
R80). -/
def Obligations.PurgesAndUnpins : Prop :=
  ∀ (s : State) (r : Request) (rest : List Request), Safety.cacheConsistent s = true →
    let l := s.lookup
    let k := paramKey r.payload
    let live (w : Walk) : Bool := w.key = k && !w.discarded
    (Safety.Takes s 16 r rest → Safety.Answers .purgeCell s rest (Safety.answer r.tag 16 .ok []) { s with
      lookup := { l with
        records := l.records.map fun c => c.filter fun c => c.key ≠ k
        rewalk := l.rewalk.filter (· ≠ k)
        walks := l.walks.filterMap fun w => if w.key = k then Safety.purged l w else some w }
      mem := { s.mem with walkQueue := s.mem.walkQueue ++
        Safety.restartReads l (l.walks.filter fun w => live w && !w.waiters.isEmpty) } }) ∧
    (Safety.Takes s 17 r rest → Safety.Answers .purgeAll s rest (Safety.answer r.tag 17 .ok []) { s with
      lookup := { l with
        records := List.replicate 32 none, rewalk := [], walks := l.walks.filterMap (Safety.purged l) }
      mem := { s.mem with walkQueue := s.mem.walkQueue ++
        Safety.restartReads l (l.walks.filter fun w => !w.discarded && !w.waiters.isEmpty) } }) ∧
    (Safety.Takes s 19 r rest →
      let pinned := l.records.any (fun c => c.any fun c => c.key = k && c.pinned) ||
        l.walks.any (fun w => live w && w.pin) || l.rewalk.contains k
      Safety.Answers .unpinCell s rest (Safety.answer r.tag 19 .ok [if pinned then 1 else 0]) { s with
        lookup := { l with
          records := l.records.map fun c => c.map fun c => if c.key = k then { c with pinned := false } else c
          rewalk := l.rewalk.filter (· ≠ k)
          walks := l.walks.filterMap fun w => if live w && w.pin then
            if w.waiters = [] ∧ w.outstanding = none then none else some { w with pin := false }
            else some w } })

/-- PIN_CELL by its cases in their order, and PIN_CELL_RESUME as the same once the management charge is free (R66, R67, R71,
R75, R76, R177); before that the resume changes nothing, by the model's choice (log 1). -/
def Obligations.PinsTaken : Prop :=
  ∀ (s : State) (tag : Byte) (k : CellKey), Safety.cacheConsistent s = true →
    let l := s.lookup
    let outcome (c : Instr) (b : State) : Prop :=
      let answered (st : Status) (data : List Byte) (s' : State) : Prop :=
        exec c s = .next (Safety.given s' (Safety.answer tag 18 st data))
      let keeps (w : Work) (l' : Lookup) (reads : List WalkRead) : Prop := exec c s = .next { b with
        lookup := l', mem := { b.mem with walkQueue := b.mem.walkQueue ++ reads }
        mgmt := { b.mgmt with inHand := some ⟨tag, w⟩ } }
      let ready := l.configured = true ∧ s.mem.state ≠ .uninitialized ∧ s.mem.state ≠ .initializing
      let cached (i : Nat) (r : CellRecord) : Prop := l.records[i]? = some (some r) ∧ r.key = k
      let live (w : Walk) : Prop := w ∈ l.walks ∧ w.key = k ∧ w.discarded = false
      let shown (i : Nat) (r : CellRecord) : List Byte :=
        [byteOf i, if r.incomplete then 1 else 0, if r.overflow then 1 else 0]
      let unheld := (∀ i r, cached i r → r.pinned = false) ∧ (∀ w, live w → w.pin = false) ∧ k ∉ l.rewalk
      let walks := unheld ∧ l.pinCount < 24 ∧ (∀ i r, ¬cached i r)
      let resting := s.service = .quiescing ∨ s.service = .standby ∨ s.service = .waking
      (¬ready → answered .notReady [] b) ∧
      (ready → ∀ i r, cached i r → r.pinned = true → answered .ok (shown i r) b) ∧
      (ready → (k ∈ l.rewalk ∨ ∃ w, live w ∧ w.pin = true) → answered .ok [0, 0, 0] b) ∧
      (ready → unheld → ∀ i r, cached i r → l.pinCount < 24 → answered .ok (shown i r)
        { b with lookup := { l with records := l.records.set i (some { r with pinned := true }) } }) ∧
      (ready → unheld → 24 ≤ l.pinCount → answered .pinLimit [] b) ∧
      (ready → walks → resting → answered .wrongState [] b) ∧
      (ready → walks → ¬resting →
        (∀ w, live w → keeps (.pinForWalk k)
          { l with walks := l.walks.map fun v => if v.charge = w.charge then { v with pin := true } else v } []) ∧
        ((∀ w, ¬live w) →
          let h := cellHash l.bucketCount k
          ((∀ w ∈ l.walks, w.charge ≠ .management) → keeps (.pinForWalk k)
            { l with walks := l.walks ++ [⟨.management, k, [], true, [], [], false, some h, false, false⟩] }
            [⟨.management, h, l.base + h * 64⟩]) ∧
          ((∃ w ∈ l.walks, w.charge = .management) → keeps (.pinForCharge k) l [])))
    (∀ r rest, Safety.Takes s 18 r rest → r.tag = tag → paramKey r.payload = k →
      outcome .pinCell { s with uplink := { s.uplink with requests := rest } }) ∧
    (s.mgmt = ⟨some ⟨tag, .pinForCharge k⟩, none⟩ →
      ((∀ w ∈ l.walks, w.charge ≠ .management) → outcome .pinCellResume s) ∧
      ((∃ w ∈ l.walks, w.charge = .management) → exec .pinCellResume s = .next s))

/-- POINT_STATE: the first status that applies; behind a write-back being written it stays in hand; merged into a waiting one
it is answered; otherwise it makes its own write, as POINT_STATE_RESUME does once the slot's write-back has completed. The
cached points change when it is taken (R100, R101). While the entry is WRITING the resume changes nothing, by the model's
choice (log 1). -/
def Obligations.PointStateTaken : Prop :=
  ∀ (s : State),
    let holds (b : Nat) (sl : Slot) (ph : WbPhase) : Prop :=
      ∃ e ∈ s.capture.writeback, e.bucket = b ∧ e.slot = sl ∧ e.phase = ph
    let sets (asked : PointState) : Option Bool × Option Nat × Option Nat := match asked with
      | .open => (some false, some 255, some 0)
      | .captured => (some true, none, none)
      | .disabled => (none, none, none)
    let shown (b : Nat) (sl : Slot) (asked : PointState) : Lookup := { s.lookup with
      records := s.lookup.records.map fun r => r.map fun r => { r with points := r.points.map fun p =>
        if p.bucket = b ∧ p.slot = sl then
          { p with
            state := asked, capHead := (sets asked).2.1.getD p.capHead, capNumber := (sets asked).2.2.getD p.capNumber }
        else p } }
    let written (b : State) (tag : Byte) (i : Nat) (sl : Slot) (asked : PointState) : State := { b with
      lookup := shown i sl asked
      mgmt := { s.mgmt with inHand := some ⟨tag, .pointWrite i sl⟩ }
      mem := { s.mem with mgmt := some (.point
        ⟨i, sl, asked ≠ .disabled, (sets asked).1, (sets asked).2.1, (sets asked).2.2⟩) } }
    (∀ r rest, Safety.Takes s 20 r rest →
      let p := r.payload
      let b := natAt 1 2 p
      let refused (st : Status) : Prop := Safety.Answers .pointState s rest (Safety.answer r.tag 20 st []) s
      if s.service = .quiescing ∨ s.service = .standby ∨ s.service = .waking then refused .wrongState
      else if s.lookup.configured = false ∨ s.mem.state = .uninitialized ∨ s.mem.state = .initializing then
        refused .notReady
      else if s.lookup.bucketCount ≤ b ∨ 1 < natAt 3 1 p ∨ 2 < natAt 4 1 p then refused .badValue
      else ∀ sl asked, sl.code = natAt 3 1 p → asked.code = natAt 4 1 p →
        (holds b sl .writing → exec .pointState s = .next (Safety.kept s r.tag rest (.pointBlocked b sl asked))) ∧
        (¬holds b sl .writing → holds b sl .waiting →
          Safety.Answers .pointState s rest (Safety.answer r.tag 20 .ok []) { s with
            lookup := shown b sl asked
            capture := { s.capture with writeback := s.capture.writeback.map fun e =>
              if e.bucket = b ∧ e.slot = sl ∧ e.phase = .waiting then
                { e with
                  enabled := asked ≠ .disabled, captured := (sets asked).1.getD e.captured
                  capHead := (sets asked).2.1.getD e.capHead, capNumber := (sets asked).2.2.getD e.capNumber }
              else e } }) ∧
        (¬holds b sl .writing → ¬holds b sl .waiting → exec .pointState s =
          .next (written { s with uplink := { s.uplink with requests := rest } } r.tag b sl asked))) ∧
    (∀ tag b sl asked, s.mgmt.inHand = some ⟨tag, .pointBlocked b sl asked⟩ →
      (holds b sl .writing → exec .pointStateResume s = .next s) ∧
      (¬holds b sl .writing → exec .pointStateResume s = .next (written s tag b sl asked)))

/-- Writes that complete store what they are to store and no other byte: a write-back and a POINT_STATE write the two marks of
their slot's status byte and bytes 24 to 28, a spill write its record with zeros to 64 bytes. The write-back's and the spill
write's entries are gone; a POINT_STATE's cached points hold what was written, and the walks over its bucket are restarted
(R74, R82, R99, R101, R106, R135, R157). -/
def Obligations.WritesComplete : Prop :=
  ∀ s : State, Safety.memoryCanonical s = true →
    let ended : MemCtl := { s.mem with running := none }
    let slotAt (b : Nat) (sl : Slot) : Nat := s.lookup.base + b * 64 + slotOffset sl
    let slotWritten (a : Nat) (enabled captured : Bool) (tail : List Byte) (cells : List Host.Cell) : Prop :=
      (∀ x, x ≠ a → { s with cells := cells }.readByte x =
        if a + 24 ≤ x ∧ x < a + 29 then tail.getD (x - (a + 24)) 0 else s.readByte x) ∧
      (∀ i, i < 8 → ({ s with cells := cells }.readByte a).getLsbD i =
        if i = 1 then enabled else if i = 2 then captured else (s.readByte a).getLsbD i)
    (∀ b sl g d e, s.mem.running = some ⟨.writeback b sl, g, d⟩ → slotAt b sl + 30 ≤ 67108864 →
      s.capture.writeback.find? (fun e => e.bucket = b && e.slot = sl && e.phase = .writing) = some e →
      ∃ cells, slotWritten (slotAt b sl) e.enabled e.captured (byteOf e.capHead :: natLE 4 e.capNumber) cells ∧
        exec .writebackDone s = .next { s with
          cells := cells, mem := ended
          capture := { s.capture with writeback := s.capture.writeback.filter fun e =>
            ¬(e.bucket = b ∧ e.slot = sl ∧ e.phase = .writing) } }) ∧
    (∀ w g d tag b sl, s.mem.running = some ⟨.mgmt (.point w), g, d⟩ → slotAt w.bucket w.slot + 30 ≤ 67108864 →
      s.mgmt = ⟨some ⟨tag, .pointWrite b sl⟩, none⟩ → (s.lookup.walks.map Walk.charge).Nodup →
      let a := slotAt w.bucket w.slot
      let captured := w.captured.getD ((s.readByte a).getLsbD 2)
      let head := w.capHead.getD (s.readByte (a + 24)).toNat
      let number := w.capNumber.getD (leNat ((List.range 4).map fun i => s.readByte (a + 25 + i)))
      let stale (v : Walk) : Bool := !v.discarded && (v.visited.contains w.bucket || v.outstanding = some w.bucket)
      let st : PointState := if w.enabled then if captured then .captured else .open else .disabled
      ∃ cells, slotWritten a w.enabled captured (byteOf head :: natLE 4 number) cells ∧
        exec .pointStateWriteDone s = .next (Safety.given { s with
          cells := cells
          mem := { ended with
            walkQueue := s.mem.walkQueue ++ Safety.restartReads s.lookup (s.lookup.walks.filter stale) }
          lookup := { s.lookup with
            walks := s.lookup.walks.map fun v => if stale v then Safety.restarted s.lookup v else v
            records := s.lookup.records.map fun r => r.map fun r => { r with points := r.points.map fun p =>
              if p.bucket = w.bucket ∧ p.slot = w.slot then { p with state := st, capHead := head, capNumber := number }
              else p } } } (Safety.answer tag 20 .ok []))) ∧
    (∀ pos g d w, s.mem.running = some ⟨.spill (.write pos), g, d⟩ → s.spill.base + pos * 64 + 64 ≤ 67108864 →
      s.spill.writes.find? (fun w => w.pos = pos) = some w →
      ∃ cells, (∀ x, { s with cells := cells }.readByte x =
          if s.spill.base + pos * 64 ≤ x ∧ x < s.spill.base + pos * 64 + 64 then
            w.data.getD (x - (s.spill.base + pos * 64)) 0
          else s.readByte x) ∧
        exec .spillWriteDone s = .next { s with
          cells := cells, mem := ended, spill := { s.spill with writes := s.spill.writes.filter fun w => w.pos ≠ pos } })

/-- A drain read starts for the oldest held record without one, with a reserved place of the report queue; and as drain reads
complete their frames enter the reserved places, and their records leave the ring, in ring order (R107, R158, R159, R166;
log 27 for the reads counted). That DRAIN_READ_START changes nothing where no drain read may start is the model's choice
(log 1). -/
def Obligations.DrainsInOrder : Prop :=
  (∀ s : State,
    let next := (s.spill.readPos + s.spill.drains.length) % 512
    let starts := (s.service = .active ∨ s.service = .hold) ∧ s.restartMark = false ∧
      s.spill.drains.length < s.spill.count ∧ (∀ w ∈ s.spill.writes, w.pos ≠ next) ∧
      (s.spill.drains.countP fun d => d.data.isNone) < 4 ∧ s.mgmt.held = none ∧ s.report.occupancy < 48
    (starts → exec .drainReadStart s = .next { s with
      spill := { s.spill with drains := s.spill.drains ++ [⟨next, none⟩] }
      report := Safety.risen { s.report with reserved := s.report.reserved + 1 }
      mem := { s.mem with spillQueue := s.mem.spillQueue ++ [.read next] } }) ∧
    (¬starts → exec .drainReadStart s = .next s)) ∧
  (∀ (s : State) (pos g d : Nat), s.mem.running = some ⟨.spill (.read pos), g, d⟩ →
    s.spill.base + pos * 64 + 64 ≤ 67108864 → s.spill.readPos < 512 →
    let record : List Byte := (List.range 64).map fun i => s.readByte (s.spill.base + pos * 64 + i)
    let drains := s.spill.drains.map fun d => if d.pos = pos then { d with data := some record } else d
    let done := drains.takeWhile fun d => d.data.isSome
    let queue := s.report.queue ++ done.map fun d => ⟨.capture, (d.data.getD []).take 42⟩
    exec .drainReadDone s = .next { s with
      mem := { s.mem with running := none }
      spill := { s.spill with
        drains := drains.dropWhile fun d => d.data.isSome
        readPos := (s.spill.readPos + done.length) % 512, count := s.spill.count - done.length }
      report := { s.report with queue := queue, reserved := s.report.reserved - done.length }
      uplink := if done = [] then s.uplink else s.uplink.choose queue })

/-! ### Control (Chapters 2, 6, 9 and 10) -/

/-- HEAD_MODE ENABLE, DISABLE and AIM: refused outside their states, and otherwise the context, the STATE event, the trigger
record and the Steer frame they leave (R45, R50, R51, R54, R120, R178). An AIM before the head's first sync expiry carries some
index (log 9). -/
def Obligations.HeadModes : Prop :=
  ∀ (s : State) (r : Request) (rest : List Request), Safety.Takes s 21 r rest →
    let p := r.payload
    let answered (c : Instr) (st : Status) (s' : State) : Prop := Safety.Answers c s rest (Safety.answer r.tag 21 st []) s'
    let mode := natAt 2 1 p
    let rows : List (Instr × Nat) := [(.headModeEnable, 0), (.headModeDisable, 1), (.headModeAim, 2)]
    (∀ c m, (c, m) ∈ rows →
      (2 < mode ∨ mode = m ∧ 3 < natAt 1 1 p → answered c .badValue s) ∧ (mode ≤ 2 → mode ≠ m → exec c s = .next s)) ∧
    (∀ n, headNumber n = natAt 1 1 p →
      let c := s.ctx.get n
      let taken := s.service = .start ∨ s.service = .active ∨ s.service = .hold
      let idle (s : State) : State :=
        { s with headTime := s.headTime.set n { s.headTime.get n with trigger := none } }
      (mode = 0 → ¬taken → answered .headModeEnable .wrongState s) ∧
      (mode = 0 → taken → c.state ≠ .disabled → answered .headModeEnable .ok s) ∧
      (mode = 0 → taken → c.state = .disabled →
        answered .headModeEnable .ok (Safety.changed s n { c with state := .offline } .enable none)) ∧
      (mode = 1 → ¬taken → answered .headModeDisable .wrongState s) ∧
      (mode = 1 → taken → c.state = .disabled → answered .headModeDisable .ok (idle s)) ∧
      (mode = 1 → taken → c.state ≠ .disabled → answered .headModeDisable .ok (idle (Safety.changed s n
        { Context.reset with state := .disabled, latest := c.latest } .disable none))) ∧
      (mode = 2 → ¬((s.service = .active ∨ s.service = .hold) ∧ c.state = .lost) → answered .headModeAim .wrongState s) ∧
      (mode = 2 → (s.service = .active ∨ s.service = .hold) → c.state = .lost →
        let t := s.settings.get n
        let az : Int := (natAt 3 4 p : Int) % 16777216
        let el : Int := max (-4194304) (min 4194304 (intAt 7 4 p))
        ∃ i k, (∀ e, (s.headTime.get n).history.getLast? = some e → i = e.index ∧ k = s.freeCount) ∧
          answered .headModeAim .ok (Safety.changed { s with freeCount := k } n
            { c with
              state := .searching, timer := t.searchDwell
              search := some ⟨az, el, t.searchStep, t.searchRings, t.searchDwell, 0, 1, true⟩ }
            .aim (some (Safety.aim i 1 3 az el)))))

/-- CLEAR_FAULT empties its subject's fault record and nothing else; SET_SERVICE by its target and the service state: the
memory's initialization begun, ACTIVE, HOLD with the settle queues cleared and the waiting attempts dropped, QUIESCING with
the contexts parked and the quiesce mark set, or the exit from self-refresh begun. At HOLD and QUIESCING the sample of each
dropped attempt is handed on and those behind it follow, and at QUIESCING the samples with pending starts are then finished
"lookup late", heads in some order; a DISABLED head's context, port and event slot stay as they are (R53, R54, R84, R89, R92,
R98, R130, R140, R141, R178, R179, R183 to R187; logs 8, 24 and 37 for the orders, log 9 for a PARK frame before the head's
first expiry, log 14 for the rows that share the kind). That the samples behind a dropped attempt are judged as their turn
comes, in the service state just entered, and so find none of them eligible, is the model's choice (log 22). -/
def Obligations.ServiceSet : Prop :=
  ∀ (s : State) (r : Request) (rest : List Request),
    let p := r.payload
    (Safety.Takes s 22 r rest →
      let cleared (s' : State) : Prop := Safety.Answers .clearFault s rest (Safety.answer r.tag 22 .ok []) s'
      (3 < natAt 1 1 p → natAt 1 1 p ≠ 255 → Safety.Answers .clearFault s rest (Safety.answer r.tag 22 .badValue []) s) ∧
      (natAt 1 1 p = 255 → cleared { s with partFault := ⟨none, []⟩ }) ∧
      (∀ n, headNumber n = natAt 1 1 p → cleared { s with headFaults := s.headFaults.set n ⟨none, []⟩ })) ∧
    (Safety.Takes s 23 r rest →
      let target := natAt 1 1 p
      let answered (c : Instr) (st : Status) (s' : State) : Prop := Safety.Answers c s rest (Safety.answer r.tag 23 st []) s'
      let rows : List (Instr × Nat) :=
        [(.setServiceActive, 0), (.setServiceHold, 1), (.setServiceStandby, 2), (.setServiceWake, 3)]
      (∀ c t, (c, t) ∈ rows → (3 < target → answered c .badValue s) ∧ (target ≤ 3 → target ≠ t → exec c s = .next s)) ∧
      (target = 0 →
        (s.service ≠ .start → s.service ≠ .active → s.service ≠ .hold → answered .setServiceActive .wrongState s) ∧
        (s.service = .active ∨ s.service = .hold → answered .setServiceActive .ok { s with service := .active }) ∧
        (s.service = .start → exec .setServiceActive s = .next { Safety.kept s r.tag rest .setActive with
          service := .init
          mem := { s.mem with state := .initializing, initPhase := some (.settle (s.time.timebase + 20000)) } })) ∧
      (target = 1 →
        (s.service ≠ .active → s.service ≠ .hold → answered .setServiceHold .wrongState s) ∧
        (s.service = .hold → answered .setServiceHold .ok s) ∧
        (s.service = .active → s.capture.waiting = [] →
          answered .setServiceHold .ok { s with service := .hold, settle := .all ⟨[], none, none⟩ }) ∧
        (s.service = .active → answered .setServiceHold .ok (s.capture.waiting.foldl State.endAttempt { s with
          service := .hold, settle := .all ⟨[], none, none⟩, capture := { s.capture with waiting := [] } })) ∧
        (s.service = .active → ∃ t, exec .setServiceHold s = .next t ∧ t.service = .hold ∧ t.capture.waiting = [] ∧
          t.uplink.requests = rest ∧ t.settle = .all ⟨[], none, none⟩ ∧ Safety.Answered t (Safety.answer r.tag 23 .ok []) ∧
          { t.capture with waiting := s.capture.waiting } = s.capture ∧
          { t with
            service := s.service, settle := s.settle, behind := s.behind, capture := s.capture, report := s.report
            uplink := s.uplink, mgmt := s.mgmt } = s)) ∧
      (target = 2 →
        (s.service ≠ .active → s.service ≠ .hold → answered .setServiceStandby .wrongState s) ∧
        (s.service = .active ∨ s.service = .hold → ∃ (ports : PerHead HeadPort) (order : List Head) (k : Nat),
          (∀ n, (s.ctx.get n).state = .disabled → ports.get n = s.ports.get n) ∧
          (∀ n, (s.ctx.get n).state ≠ .disabled →
            ∃ i, (∀ e, (s.headTime.get n).history.getLast? = some e → i = e.index) ∧
              ports.get n = Safety.withSteer n (s.ports.get n) (Safety.aim i 1 4
                (((s.ctx.get n).latest.map LatestSample.az).getD 0) (((s.ctx.get n).latest.map LatestSample.el).getD 0))) ∧
          order.Nodup ∧ (∀ n, n ∈ order ↔ ∃ w, s.waiting.get n = some w ∧ w.pendingStart = true) ∧
          (let slot (n : Head) : Option HeldEvent :=
            if (s.ctx.get n).state = .disabled then s.report.headSlots.get n
            else some ⟨.state (s.ctx.get n).state .parked .park, (s.report.headSlots.get n).isSome⟩
          let parked : State := { s with
            service := .quiescing
            ctx := s.ctx.map fun c => if c.state = .disabled then c
              else { c with state := .parked, timer := 0, silence := 0, attempts := 0, search := none }
            report := { s.report with headSlots := ⟨slot .h0, slot .h1, slot .h2, slot .h3⟩ }
            ports := ports, settle := .all ⟨[], none, none⟩, capture := { s.capture with waiting := [] }, freeCount := k }
          let done := order.foldl Safety.finishedLate (s.capture.waiting.foldl State.endAttempt parked)
          exec .setServiceStandby s = .next { done with
            uplink := { done.uplink with requests := rest }, mem := { s.mem with quiesce := true }
            mgmt := { s.mgmt with inHand := some ⟨r.tag, .setStandby⟩ } })) ∧
        (s.service = .active ∨ s.service = .hold → ∃ t, exec .setServiceStandby s = .next t ∧ t.service = .quiescing ∧
          t.mgmt = ⟨some ⟨r.tag, .setStandby⟩, none⟩ ∧ t.uplink.requests = rest ∧ t.mem = { s.mem with quiesce := true } ∧
          t.settle = .all ⟨[], none, none⟩ ∧ t.capture.waiting = [] ∧
          (∀ n, t.ctx.get n = (if (s.ctx.get n).state = .disabled then s.ctx.get n else { s.ctx.get n with
            state := .parked, timer := 0, silence := 0, attempts := 0, search := none }) ∧
            ((s.ctx.get n).state ≠ .disabled → t.report.headSlots.get n =
              some ⟨.state (s.ctx.get n).state .parked .park, ((s.report.headSlots.get n).isSome)⟩) ∧
            t.waiting.get n = (s.waiting.get n).filter fun w => !w.pendingStart) ∧
          (∀ n, (s.ctx.get n).state = .disabled →
            t.ports.get n = s.ports.get n ∧ t.report.headSlots.get n = s.report.headSlots.get n) ∧
          (∀ n e, (s.ctx.get n).state ≠ .disabled → (s.headTime.get n).history.getLast? = some e →
            let angles := match (s.ctx.get n).latest with
              | some l => (l.az, l.el)
              | none => (0, 0)
            t.ports.get n = Safety.withSteer n (s.ports.get n) (Safety.aim e.index 1 4 angles.1 angles.2)) ∧
          { t.capture with waiting := s.capture.waiting } = s.capture ∧
          { t with
            service := s.service, ctx := s.ctx, settle := s.settle, behind := s.behind, waiting := s.waiting, mem := s.mem
            capture := s.capture, report := s.report, ports := s.ports, uplink := s.uplink, mgmt := s.mgmt
            freeCount := s.freeCount } = s)) ∧
      (target = 3 →
        (s.service ≠ .standby → answered .setServiceWake .wrongState s) ∧
        (s.service = .standby → exec .setServiceWake s = .next { Safety.kept s r.tag rest .setWake with
          service := .waking, mem := { s.mem with state := .exiting, exitBegan := some s.time.timebase } })))

/-- RESTART begins its drain and hands its pending samples on as "lookup late", heads in some order; RESTART_PROPER resets what
it resets once the drain has ended and keeps the rest; and HARD_RESET gives every item its reset value, of which the spec's
are listed (R1, R29, R30, R56, R62, R85, R103, R106, R107, R109 to R118, R125, R127, R143, R158, R160, R164, R165, R168, R169,
R180, R181, R184, R188, R189; logs 1, 26, 31, 32 and 33, and log 8 for the order). -/
def Obligations.RestartsAndReset : Prop :=
  (∀ (s : State) (r : Request) (rest : List Request), Safety.Takes s 24 r rest →
    (s.service ≠ .active → s.service ≠ .hold →
      Safety.Answers .restart s rest (Safety.answer r.tag 24 .wrongState []) s) ∧
    (s.service = .active ∨ s.service = .hold →
      ((∀ n w, s.waiting.get n = some w → w.pendingStart = false) →
        exec .restart s = .next { Safety.kept s r.tag rest .restart with restartMark := true }) ∧
      (∃ (order : List Head) (k : Nat), order.Nodup ∧
        (∀ n, n ∈ order ↔ ∃ w, s.waiting.get n = some w ∧ w.pendingStart = true) ∧
        (let done := order.foldl Safety.finishedLate { s with restartMark := true, freeCount := k }
        exec .restart s = .next { done with
          uplink := { done.uplink with requests := rest }
          mgmt := { s.mgmt with inHand := some ⟨r.tag, .restart⟩ } })) ∧
      (∃ t, exec .restart s = .next t ∧ t.restartMark = true ∧ t.mgmt = ⟨some ⟨r.tag, .restart⟩, none⟩ ∧
        t.uplink.requests = rest ∧ (∀ n, t.waiting.get n = (s.waiting.get n).filter fun w => !w.pendingStart) ∧
        { t with
          restartMark := s.restartMark, waiting := s.waiting, settle := s.settle, behind := s.behind, report := s.report
          uplink := s.uplink, mgmt := s.mgmt, freeCount := s.freeCount } = s))) ∧
  (∀ (s : State) (tag : Byte), s.mgmt = ⟨some ⟨tag, .restart⟩, none⟩ →
    let drained := s.restartMark = true ∧ s.lookup.walks = [] ∧ (∀ n, s.waiting.get n = none ∧ s.behind.get n = []) ∧
      s.capture.waiting = [] ∧ s.capture.attempt = none ∧ s.capture.writeback = [] ∧ s.spill.writes = [] ∧
      s.spill.drains = [] ∧ s.report.occupancy = 0 ∧ s.mem.running = none
    (¬drained → exec .restartProper s = .next s) ∧
    (drained → exec .restartProper s = .next (Safety.given { s with
      service := .active, restartMark := false, headFaults := .all ⟨none, []⟩, partFault := ⟨none, []⟩
      ctx := .all Context.reset, settle := .all ⟨[], none, none⟩
      lookup := { s.lookup with records := List.replicate 32 none, victim := 0, rewalk := [] }
      headTime := s.headTime.map fun h => { h with trigger := none }
      mem := { s.mem with quiesce := false }
      report := ⟨[], 0, none, .all none, none,
        s.report.decimation.map fun d => ⟨d.configured, d.configured, 0⟩⟩
      ports := s.ports.map fun p => { p with bad := 0, forward := [], steer := none, steerTag := 0 }
      uplink := { s.uplink with
        bad := 0, forward := [], requests := [], reportTag := 0, servedReport := false
        sending := s.uplink.sending.map fun t => { t with source := .detached } } }
      (Safety.answer tag 24 .ok [])))) ∧
  (∀ s : State, exec .hardReset s = .next { State.reset with
    pending := s.pending, freeCount := s.freeCount, resetCount := s.resetCount + 1 }) ∧
  (∀ z : State, z = State.reset →
    (z.service = .start ∧ z.restartMark = false ∧ z.partFault = ⟨none, []⟩ ∧ z.mgmt = ⟨none, none⟩) ∧
    (z.time.timebase = 0 ∧ z.time.period = 100000 ∧ z.time.pendingSync = none ∧ z.time.nextEpoch = 100000 ∧
      z.time.syncIndex = 0 ∧ z.time.refState = .free ∧ z.time.onceLocked = false ∧ z.time.lockUp = 0 ∧
      z.time.present = false) ∧
    (z.mem.state = .uninitialized ∧ z.mem.quiesce = false ∧ z.mem.interleave = .k8 ∧ z.mem.refreshInterval = 8 ∧
      z.mem.timing = ⟨15, 15, 25, 160, 200⟩ ∧ z.mem.x1 = false ∧ z.mem.x2 = false ∧ z.mem.x3 = false ∧ z.mem.owed = 0 ∧
      z.mem.nextRefresh = none ∧ z.mem.openRows = [none, none, none, none] ∧ z.mem.running = none) ∧
    (z.lookup.configured = false ∧ z.lookup.base = 0 ∧ z.lookup.bucketCount = 1024 ∧ z.lookup.shift = 20 ∧
      z.lookup.records = List.replicate 32 none ∧ z.lookup.victim = 0 ∧ z.lookup.walks = [] ∧ z.lookup.rewalk = [] ∧
      z.lookup.pinCount = 0) ∧
    (z.capture.writeback = [] ∧ z.capture.nextNumber = some 1 ∧ z.capture.attempt = none ∧
      z.spill = ⟨false, 0, 0, 0, 0, [], []⟩) ∧
    (z.report.queue = [] ∧ z.report.reserved = 0 ∧ z.report.partSlot = none ∧ z.report.visiting = none ∧
      z.uplink = ⟨false, 0, [], [], 0, false, none⟩) ∧
    ∀ n, z.headFaults.get n = ⟨none, []⟩ ∧
      z.measure.get n = {
        compAz := List.replicate 256 0, compEl := List.replicate 256 0, countScale := 343597384, deadband := 2
        distanceMax := 60000000, rotation := ⟨⟨2 ^ 30, 0, 0⟩, ⟨0, 2 ^ 30, 0⟩, ⟨0, 0, 2 ^ 30⟩⟩, translation := ⟨0, 0, 0⟩
        poseGen := 0, anchor := 0 } ∧
      z.ctx.get n = {
        state := .offline, timer := 0, silence := 0, heard := false, lastIndex := none, newest := none, previous := none
        velAz := 0, velEl := 0, predicted := none, search := none, attempts := 0, latest := none } ∧
      z.settings.get n = ⟨40, 50, 1, 800, 8, 2, 20000, 200, 20⟩ ∧ z.settle.get n = ⟨[], none, none⟩ ∧
      (z.headTime.get n).phase = 0 ∧ (z.headTime.get n).history = [] ∧ (z.headTime.get n).pulseEnd = none ∧
      (z.headTime.get n).trigger = none ∧ (z.headTime.get n).window = 500 ∧
      z.report.decimation.get n = ⟨10, 10, 0⟩ ∧ z.report.headSlots.get n = none ∧
      z.ports.get n = ⟨false, 0, [], none, 0, none⟩)

/-! ### Table memory (Chapter 6) -/

/-- The memory's course: initialization, refreshes falling due and ending, self-refresh entered and left, with the service
state and the answer that each brings (R53, R130, R137, R140, R141, R184, R186, R187; log 3 for the durations, log 17 for a
count that stays at 8). That none of these steps does anything where its condition does not hold is the model's choice and no
rule's (log 1), a REFRESH_DONE with no refresh running and an INIT_REFRESH_DONE outside INITIALIZING among them. -/
def Obligations.MemoryRunsItsCourse : Prop :=
  ∀ s : State,
    let closed : List (Option Nat) := [none, none, none, none]
    let next := some (s.time.timebase + s.mem.refreshInterval * 100)
    let settled := s.mem.state = .initializing ∧ ∃ t, s.mem.initPhase = some (.settle t) ∧ t ≤ s.time.timebase
    let due (t : Nat) := s.mem.state = .ready ∧ s.mem.nextRefresh = some t ∧ t ≤ s.time.timebase
    let quiet := s.mem.quiesce = true ∧ s.mem.state = .ready ∧ s.capture.attempt = none ∧ s.capture.waiting = [] ∧
      s.lookup.walks = [] ∧ s.capture.writeback = [] ∧ s.spill.writes = [] ∧ s.spill.drains = [] ∧ s.mem.mgmt = none ∧
      s.mem.owed = 0 ∧ s.mem.running = none
    (settled → exec .initSettleEnd s = .next { s with mem := { s.mem with
      openRows := closed, initPhase := some (.refreshing 8 s.time.timebase) } }) ∧
    (¬settled → exec .initSettleEnd s = .next s) ∧
    (∀ left began, s.mem.state = .initializing → s.mem.initPhase = some (.refreshing left began) →
      (1 < left → exec .initRefreshDone s = .next { s with mem := { s.mem with
        initPhase := some (.refreshing (left - 1) s.time.timebase) } }) ∧
      (left ≤ 1 → ∀ tag, s.mgmt = ⟨some ⟨tag, .setActive⟩, none⟩ → exec .initRefreshDone s = .next (Safety.given { s with
        service := .active
        mem := { s.mem with state := .ready, initPhase := none, exitBegan := none, owed := 0, nextRefresh := next } }
        (Safety.answer tag 23 .ok [])))) ∧
    (s.mem.state ≠ .initializing → exec .initRefreshDone s = .next s) ∧
    (∀ t, due t → exec .refreshExpiry s = .next { s with mem := { s.mem with
      owed := min 8 (s.mem.owed + 1), nextRefresh := some (t + s.mem.refreshInterval * 100) } }) ∧
    ((∀ t, ¬due t) → exec .refreshExpiry s = .next s) ∧
    (∀ g d, s.mem.running = some ⟨.refresh, g, d⟩ → exec .refreshDone s =
      .next { s with mem := { s.mem with running := none, openRows := closed } }) ∧
    ((∀ g d, s.mem.running ≠ some ⟨.refresh, g, d⟩) → exec .refreshDone s = .next s) ∧
    (quiet → ∀ tag, s.mgmt = ⟨some ⟨tag, .setStandby⟩, none⟩ → exec .selfRefreshEntry s = .next (Safety.given { s with
      service := .standby
      mem := { s.mem with state := .selfRefresh, openRows := closed, nextRefresh := none, quiesce := false } }
      (Safety.answer tag 23 .ok []))) ∧
    (¬quiet → exec .selfRefreshEntry s = .next s) ∧
    (s.mem.state = .exiting → ∀ tag, s.mgmt = ⟨some ⟨tag, .setWake⟩, none⟩ →
      let woken (n : Head) : Option HeldEvent :=
        if (s.ctx.get n).state = .parked then
          some ⟨.state .parked .lost .wake, (s.report.headSlots.get n).isSome⟩
        else s.report.headSlots.get n
      exec .selfRefreshExitDone s = .next (Safety.given { s with
        service := .active
        mem := { s.mem with state := .ready, initPhase := none, exitBegan := none, owed := 1, nextRefresh := next }
        ctx := s.ctx.map fun c => if c.state = .parked then { c with state := .lost } else c
        report := { s.report with headSlots := ⟨woken .h0, woken .h1, woken .h2, woken .h3⟩ } }
        (Safety.answer tag 23 .ok []))) ∧
    (s.mem.state ≠ .exiting → exec .selfRefreshExitDone s = .next s)

/-- MEMORY_GRANT: at a grant point the access granted leaves its requester's waiting requests (a write-back entry becomes
WRITING, an owed refresh is owed no more) and runs from that moment for its duration, which the rows its bytes touch and the
rows left open decide (R99, R128, R129, R132, R133, R135, R137). That MEMORY_GRANT changes nothing at another time, or with
nothing to grant, and that two bank-rows are served in address order, are the model's choices (logs 1 and 42). -/
def Obligations.GrantRunsAccess : Prop :=
  ∀ s : State,
    (s.mem.state ≠ .ready ∨ s.mem.running ≠ none ∨ s.granted = none → exec .memoryGrant s = .next s) ∧
    (∀ a, s.mem.state = .ready → s.mem.running = none → s.granted = some a → ∃ duration rows,
      let runs (m : MemCtl) : MemCtl := { m with running := some ⟨a, s.time.timebase, duration⟩, openRows := rows }
      exec .memoryGrant s = .next (match a with
        | .walk _ => { s with mem := runs { s.mem with walkQueue := s.mem.walkQueue.tail } }
        | .spill _ => { s with mem := runs { s.mem with spillQueue := s.mem.spillQueue.tail } }
        | .mgmt _ => { s with mem := runs { s.mem with mgmt := none } }
        | .refresh => { s with mem := runs { s.mem with owed := s.mem.owed - 1 } }
        | .writeback b sl => { s with
          mem := runs s.mem
          capture := { s.capture with writeback := s.capture.writeback.map fun e =>
            if e.bucket = b ∧ e.slot = sl ∧ e.phase = .waiting then { e with phase := .writing } else e } }) ∧
      (a = .refresh → duration = s.mem.timing.refresh ∧ rows = s.mem.openRows) ∧
      (∀ addr len modify,
        (match a with
          | .walk r => (addr, len, modify) = (r.addr, 64, false)
          | .writeback b sl => (addr, len, modify) = (s.lookup.base + b * 64 + slotOffset sl, 30, true)
          | .spill (.write q) | .spill (.read q) => (addr, len, modify) = (s.spill.base + q * 64, 64, false)
          | .mgmt (.read x n) => (addr, len, modify) = (x, n, false)
          | .mgmt (.write x bs) => (addr, len, modify) = (x, bs.length, false)
          | .mgmt (.point w) => (addr, len, modify) = (s.lookup.base + w.bucket * 64 + slotOffset w.slot, 30, true)
          | .refresh => False) →
        let touched := bankRows s.mem.interleave.bytes addr len
        let t := s.mem.timing
        let cost (rows : List (Option Nat)) (q : Nat × Nat) : Nat := rowDuration t (rows.getD q.1 none) q.2
        let more := if modify then t.access else 0
        (∀ q, touched = [q] → duration = cost s.mem.openRows q + more ∧ rows = s.mem.openRows.set q.1 (some q.2)) ∧
        (∀ q q', touched = [q, q'] →
          let first := s.mem.openRows.set q.1 (some q.2)
          duration = cost s.mem.openRows q + cost first q' + more ∧ rows = first.set q'.1 (some q'.2))))

/-! ### Walks and captures (Chapters 3 and 4) -/

/-- A walk's bucket read taken: dropped with a dead walk, dropped before a restarted chain begins, or taken, after which the
chain goes on or the walk completes. A completed walk's record is inserted; its waiting samples are handed to the capture unit
with the record, heads in some order, with CELL_OVERFLOW where it overflowed; then a PIN_CELL that waits for it is answered OK
with the record's index and marks; then a bad or overlong link is raised (R69, R71, R76, R177; log 8 for the heads, log 24 for
the rest of the order). A slot is read from its 30 bytes, slot A before slot B, its marks and captured state forwarded from
the write-back queue (R60, R67, R69, R70, R157). A pending start is retried and the re-walk list starts its walks (R63, R66,
R67, R68, R70, R72, R73, R74, R78); that these two rows, and a read whose walk is gone, change nothing else where their
condition does not hold is the model's choice (log 1). -/
def Obligations.WalksRun : Prop :=
  (∀ (s : State) (r : WalkRead) (g d : Nat), s.mem.running = some ⟨.walk r, g, d⟩ → r.addr + 64 ≤ 67108864 →
    (s.lookup.walks.map Walk.charge).Nodup →
    let l := s.lookup
    let idle : MemCtl := { s.mem with running := none }
    let asks (m : MemCtl) (b : Nat) : MemCtl :=
      { m with walkQueue := m.walkQueue ++ [⟨r.charge, b, l.base + b * 64⟩] }
    let data := (List.range 64).map fun i => s.readByte (r.addr + i)
    let replaced (w : Walk) : Lookup := { l with walks := l.walks.map fun v => if v.charge = r.charge then w else v }
    let others := l.walks.filter fun v => v.charge != r.charge
    ((∀ w ∈ l.walks, w.charge ≠ r.charge) → exec .walkReadDone s = .next { s with mem := idle }) ∧
    (∀ w ∈ l.walks, w.charge = r.charge →
      let dead := w.discarded = true ∨ w.waiters = [] ∧ w.pin = false
      let read := w.take s.capture.writeback r.bucket data
      let next := leNat (data.drop 60)
      (dead → exec .walkReadDone s = .next { s with mem := idle, lookup := { l with walks := others } }) ∧
      (¬dead → w.dropData = true →
        let h := cellHash l.bucketCount w.key
        exec .walkReadDone s = .next { s with
          mem := asks idle h, lookup := replaced { w with outstanding := some h, dropData := false } }) ∧
      (¬dead → w.dropData = false →
        read.visited = w.visited ++ [r.bucket] ∧ read.key = w.key ∧ read.pin = w.pin ∧ read.waiters = w.waiters ∧
        (next ≠ 0 → next < l.bucketCount → w.visited.length + 1 < 4 → exec .walkReadDone s = .next { s with
          mem := asks idle next, lookup := replaced { read with outstanding := some next, dropData := false } }) ∧
        (next = 0 ∨ l.bucketCount ≤ next ∨ 4 ≤ w.visited.length + 1 →
          let c : CellRecord := ⟨w.pin, w.key, decide (next ≠ 0), read.overflow, read.visited,
            read.matched.map (forwarded s.capture.writeback)⟩
          let bad : FaultKind := if l.bucketCount ≤ next then .badLink else .chainLimit
          ∃ t, exec .walkReadDone s = .next t ∧
            { t.lookup with records := l.records, victim := l.victim } = { l with walks := others } ∧
            (let hand (b : State) (n : Head) : State := match b.waiting.get n with
              | some y =>
                let gone : State := { b with waiting := b.waiting.set n none }
                (if c.overflow = true then Safety.raised gone (some n) .cellOverflow y.sample.index else gone).toCapture n
                  ⟨y.sample, .record c⟩
              | none => b
             let ended (b : State) : State := if next = 0 then b else Safety.raised b none bad r.bucket
             ∃ (order : List Head) (k : Nat), order.Perm w.waiters ∧
              (let handed := order.foldl hand { s with mem := idle, lookup := t.lookup, freeCount := k }
               ((∀ tag, s.mgmt.inHand ≠ some ⟨tag, .pinForWalk w.key⟩) → t = ended handed) ∧
               (∀ tag, s.mgmt = ⟨some ⟨tag, .pinForWalk w.key⟩, none⟩ → ∀ i,
                (∃ x, t.lookup.records[i]? = some (some x) ∧ x.key = w.key) →
                (∀ j x, j < i → t.lookup.records[j]? = some (some x) → x.key ≠ w.key) →
                t = ended (Safety.given handed (Safety.answer tag 18 .ok
                  [byteOf i, if c.incomplete then 1 else 0, if c.overflow then 1 else 0]))))) ∧
            (∀ i, l.records[i]? = some none → (∀ j, j < i → l.records[j]? ≠ some none) →
              t.lookup.records = l.records.set i (some c) ∧ t.lookup.victim = l.victim) ∧
            (l.records.length = 32 → (∀ o ∈ l.records, o ≠ none) → ∀ j, j < 32 →
              (∃ o, l.records[(l.victim + j) % 32]? = some (some o) ∧ o.pinned = false) →
              (∀ i, i < j → ∀ o, l.records[(l.victim + i) % 32]? = some (some o) → o.pinned = true) →
              t.lookup.records = l.records.set ((l.victim + j) % 32) (some c) ∧
                t.lookup.victim = ((l.victim + j) % 32 + 1) % 32) ∧
            (∀ n, t.waiting.get n = if n ∈ w.waiters then none else s.waiting.get n) ∧
            t.partFault = (if next = 0 then s.partFault
              else (Safety.raised s none bad r.bucket).partFault) ∧
            (∀ tag, s.mgmt = ⟨some ⟨tag, .pinForWalk w.key⟩, none⟩ → t.mgmt.inHand = none) ∧
            ((∀ tag, s.mgmt.inHand ≠ some ⟨tag, .pinForWalk w.key⟩) → t.mgmt = s.mgmt) ∧
            (∀ n, n ∉ w.waiters → t.settle.get n = s.settle.get n ∧ t.behind.get n = s.behind.get n ∧
              t.headFaults.get n = s.headFaults.get n) ∧
            { t.capture with waiting := s.capture.waiting } = s.capture ∧
            { t with
              lookup := s.lookup, waiting := s.waiting, settle := s.settle, behind := s.behind, capture := s.capture
              report := s.report, uplink := s.uplink, mgmt := s.mgmt, partFault := s.partFault
              headFaults := s.headFaults, freeCount := s.freeCount } = { s with mem := idle })))) ∧
  (∀ (w : Walk) (q : List WbEntry) (bucket : Nat) (bs : List Byte),
    w.take q bucket bs =
      ({ w with visited := w.visited ++ [bucket], outstanding := none }.examine q bucket .a (bs.take 30)).examine q bucket .b
        ((bs.drop 30).take 30)) ∧
  (∀ (bucket : Nat) (sl : Slot) (status settle head spare : Byte) (k : CellKey) (id tolerance number : Nat) (pos : Vec3),
    Safety.signedVec 16 ⟨k.cx, k.cy, k.cz⟩ = true → id < 65536 → Safety.signedVec 32 pos = true → tolerance < 65536 →
    number < 4294967296 →
    let bs := [status, settle] ++ intLE 2 k.cx ++ intLE 2 k.cy ++ intLE 2 k.cz ++ natLE 2 id ++ intLE 4 pos.x ++
      intLE 4 pos.y ++ intLE 4 pos.z ++ natLE 2 tolerance ++ [head] ++ natLE 4 number ++ [spare]
    bs.length = 30 ∧ slotValid bs = status.getLsbD 0 ∧ slotKey bs = k ∧ slotPoint bucket sl bs = {
      bucket := bucket, slot := sl, id := id, nominal := pos, tolerance := tolerance
      settle := if settle.toNat = 0 then 1 else if 12 < settle.toNat then 12 else settle.toNat
      mode := if status.getLsbD 3 then .triggered else .auto
      state := if status.getLsbD 1 then if status.getLsbD 2 then .captured else .open else .disabled
      capHead := head.toNat, capNumber := number }) ∧
  (∀ (q : List WbEntry) (p : Point),
    (∀ e, q.find? (fun e => e.bucket = p.bucket && e.slot = p.slot) = some e → forwarded q p = { p with
      state := if e.enabled then if e.captured then .captured else .open else .disabled
      capHead := e.capHead, capNumber := e.capNumber }) ∧
    ((∀ e ∈ q, ¬(e.bucket = p.bucket ∧ e.slot = p.slot)) → forwarded q p = p)) ∧
  (∀ (w : Walk) (q : List WbEntry) (bucket : Nat) (sl : Slot) (bs : List Byte),
    let matches_ := slotValid bs = true ∧ slotKey bs = w.key ∧ ∀ p ∈ w.matched, ¬(p.bucket = bucket ∧ p.slot = sl)
    w.examine q bucket sl bs =
      if matches_ then
        if w.matched.length < 4 then
          { w with matched := w.matched ++ [forwarded q (slotPoint bucket sl bs)] }
        else { w with overflow := true }
      else w) ∧
  (∀ (s : State) (n : Head),
    let starts := (s.service = .active ∨ s.service = .hold) ∧ s.restartMark = false
    (∀ m, s.waiting.get n = some ⟨m, true⟩ → starts → (∀ w ∈ s.lookup.walks, w.charge ≠ .head n) →
      exec (.pendingStartRetry n) s = .next ({ s with waiting := s.waiting.set n none }.lookupSample n m)) ∧
    ((∀ m, s.waiting.get n ≠ some ⟨m, true⟩) ∨ ¬starts ∨ (∃ w ∈ s.lookup.walks, w.charge = .head n) →
      exec (.pendingStartRetry n) s = .next s) ∧
    (∀ k rest, s.lookup.rewalk = k :: rest →
      let can := starts ∧ (∀ w ∈ s.lookup.walks, w.charge ≠ .management) ∧
        ∀ tag k', s.mgmt.inHand ≠ some ⟨tag, .pinForCharge k'⟩
      let h := cellHash s.lookup.bucketCount k
      (can → exec .rewalkStart s = .next { s with
        lookup := { s.lookup with
          rewalk := rest
          walks := s.lookup.walks ++ [⟨.management, k, [], true, [], [], false, some h, false, false⟩] }
        mem := { s.mem with walkQueue := s.mem.walkQueue ++ [⟨.management, h, s.lookup.base + h * 64⟩] } }) ∧
      (¬can → exec .rewalkStart s = .next s)) ∧
    (s.lookup.rewalk = [] → exec .rewalkStart s = .next s))

/-- The end of an attempt hands its sample on and then those that waited behind it, in their order (R92, R98); and the attempts
that make nothing: none may run, no trigger, no number left, a write of the slot in hand or under way, no room in the
write-back queue, a ring that is absent, full or busy (R90, R91, R92, R93, R94, R95; log 12; log 1 for a CAPTURE_ATTEMPT with
no attempt to run, log 22 for the samples behind, which are judged as their turn comes). -/
def Obligations.AttemptMakesNothing : Prop :=
  (∀ (s : State) (a : Attempt), s.endAttempt a = (s.behind.get a.head).foldl (fun s h => s.toCapture a.head h)
    { s.reportSample a.head a.handed with behind := s.behind.set a.head [] }) ∧
  (∀ s : State, s.capture.attempt ≠ none ∨ s.capture.waiting = [] → exec .captureAttempt s = .next s) ∧
  (∀ (s : State) (a : Attempt) (rest : List Attempt), s.capture.attempt = none → s.capture.waiting = a :: rest →
    let b := a.point.bucket
    let sl := a.point.slot
    let begun : State := { s with capture := { s.capture with waiting := rest } }
    let nothing := exec .captureAttempt s = .next (begun.endAttempt a)
    let cleared : State := { begun with settle := s.settle.set a.head ⟨[], none, none⟩ }
    let refused : State := Safety.raised cleared (some a.head) .captureRefused a.handed.sample.index
    let triggered := a.point.mode = .auto ∨ (s.headTime.get a.head).trigger ≠ none
    let held := Safety.attemptHeld s b sl
    let queueRoom := s.spill.count = 0 ∧ s.report.occupancy < 48
    (¬triggered → nothing) ∧
    (triggered → s.capture.nextNumber = none → exec .captureAttempt s = .next (refused.endAttempt a)) ∧
    (triggered → s.capture.nextNumber ≠ none → held → nothing) ∧
    (triggered → s.capture.nextNumber ≠ none → ¬held → ¬queueRoom →
      (512 ≤ s.spill.count → exec .captureAttempt s =
        .next ((Safety.raised refused none .spillFull (headNumber a.head)).endAttempt a)) ∧
      (s.spill.count < 512 → s.spill.configured = false → exec .captureAttempt s = .next (refused.endAttempt a)) ∧
      (s.spill.count < 512 → s.spill.configured = true → 4 ≤ s.spill.writes.length → nothing)))

/-- An attempt's tests pass, in the report queue where the ring is empty and a place free, and in the ring where it has a
position and a write to spare. One whose tests pass reserves its room and makes the capture update: applied, the capture is made as one change, with
its record in the report queue or in the ring; stale, the settle queue is cleared; not cached, only the room is released (R27,
R83, R93, R96, R97, R99, R105, R106, R155, R162, R163; log 24 for the order, log 36 for the field of a timestamp below
0). -/
def Obligations.AttemptMakesCapture : Prop :=
  ∀ (s : State) (a : Attempt) (rest : List Attempt) (number : Nat), s.capture.attempt = none →
    s.capture.waiting = a :: rest → s.capture.nextNumber = some number →
    (a.point.mode = .auto ∨ (s.headTime.get a.head).trigger ≠ none) →
    let n := a.head
    let p := a.point
    let l := s.lookup
    let q := s.settle.get n
    let key := attemptKey a
    let room := s.captureTests p.bucket p.slot
    let point (x : Option Point) : Prop :=
      (∃ (c : CellRecord) (i : Nat), l.records[i]? = some (some c) ∧ c.key = key ∧ (∀ (j : Nat) (o : CellRecord), l.records[j]? = some (some o) → o.key = key → j = i) ∧
        c.points.find? (fun y => y.bucket = p.bucket && y.slot = p.slot) = x) ∨
      ((∀ c : CellRecord, some c ∈ l.records → c.key ≠ key) ∧ x = none)
    let begun : State := { s with capture := { s.capture with waiting := rest } }
    let taken : Report := Safety.risen { s.report with reserved := s.report.reserved + 1 }
    let released : Report := Safety.fallen { taken with reserved := s.report.reserved }
    let ended (t : State) : Prop := exec .captureAttempt s = .next (t.endAttempt a)
    let empty : PerHead SettleQueue := s.settle.set n ⟨[], none, none⟩
    let mean := meanPosition ((q.entries.drop (q.entries.length - p.settle)).map SettleEntry.pos)
    let axis (m c : Int) : Int := max (-32767) (min 32767 (m - c))
    let time : List Byte := timestampField a.handed.sample.timestamp
    let payload : List Byte := natLE 4 number ++ [byteOf (headNumber n), byteOf p.slot.code] ++ natLE 2 p.id ++
      natLE 2 p.bucket ++ natLE 2 a.handed.sample.index ++ time ++
      [byteOf s.time.quality.code, byteOf p.settle] ++ intLE 4 mean.x ++ intLE 4 mean.y ++ intLE 4 mean.z ++
      intLE 2 (axis mean.x p.nominal.x) ++ intLE 2 (axis mean.y p.nominal.y) ++ intLE 2 (axis mean.z p.nominal.z) ++
      natLE 2 (q.poseGen.getD 0)
    let waits := s.capture.writeback.any fun e => e.bucket = p.bucket && e.slot = p.slot && e.phase = .waiting
    let made : State := { begun with
      settle := empty
      headTime := s.headTime.set n { s.headTime.get n with trigger := none }
      lookup := { l with records := l.records.map fun r => r.map fun r => if r.key = key then
        { r with points := r.points.map fun y => if y.bucket = p.bucket ∧ y.slot = p.slot then
          { y with state := .captured, capHead := headNumber n, capNumber := number } else y } else r }
      capture := { begun.capture with
        nextNumber := if number < 4294967295 then some (number + 1) else none
        writeback := if waits then s.capture.writeback.map fun e =>
            if e.bucket = p.bucket ∧ e.slot = p.slot ∧ e.phase = .waiting then
              { e with enabled := true, captured := true, capHead := headNumber n, capNumber := number } else e
          else s.capture.writeback ++ [⟨p.bucket, p.slot, true, true, headNumber n, number, .waiting⟩] } }
    let held := Safety.attemptHeld s p.bucket p.slot
    (held → room = .deferred) ∧
    (¬held → s.spill.count = 0 → s.report.occupancy < 48 → room = .pass .queue) ∧
    (¬held → 0 < s.spill.count ∨ 48 ≤ s.report.occupancy → s.spill.count < 512 → s.spill.configured = true →
      s.spill.writes.length < 4 → room = .pass .ring) ∧
    payload.length = 42 ∧
    (∀ ticks : Nat, a.handed.sample.timestamp = ticks → time = natLE 8 ticks) ∧
    (room = .pass .queue →
      (∀ y, point (some y) → y.state = .open → ended { made with
        report := { taken with queue := s.report.queue ++ [⟨.capture, payload⟩], reserved := s.report.reserved }
        uplink := s.uplink.choose (s.report.queue ++ [⟨.capture, payload⟩]) }) ∧
      (∀ y, point (some y) → y.state ≠ .open → ended { begun with settle := empty, report := released }) ∧
      (point none → ended { begun with report := released })) ∧
    (room = .pass .ring →
      (∀ y, point (some y) → y.state = .open → ended { made with
        spill := { s.spill with
          writePos := (s.spill.writePos + 1) % 512, count := s.spill.count + 1
          writes := s.spill.writes ++ [⟨s.spill.writePos, payload⟩] }
        mem := { s.mem with spillQueue := s.mem.spillQueue ++ [.write s.spill.writePos] } }) ∧
      (∀ y, point (some y) → y.state ≠ .open → ended { begun with settle := empty }) ∧
      (point none → ended begun)) ∧
    (room = .pass .queue ∨ room = .pass .ring → s.spill.count = 0 ∧ s.report.occupancy < 48 ∧ room = .pass .queue ∨
      (0 < s.spill.count ∨ 48 ≤ s.report.occupancy) ∧ s.spill.count < 512 ∧ s.spill.configured = true ∧
        s.spill.writes.length < 4 ∧ room = .pass .ring)

/-! ### Time (Chapters 2 and 5) -/

/-- The steps of the time base: an epoch advances the sync index by one and gives every head its next expiry, a sync line goes
low, a trigger edge makes an idle record pending or overruns, and the reference is judged by its edges (R109 to R114, R116,
R118, R119, R182; log 34 for two events of one instant, log 40 for intervals once the timebase is held at its top value). That
a step of the time base changes nothing where it is not due is the model's choice (log 1). -/
def Obligations.TimeBaseSteps : Prop :=
  ∀ s : State,
    let now := s.time.timebase
    let pend := s.time.pendingSync
    let period := (pend.map SyncConfig.period).getD s.time.period
    let epoch (n : Head) : HeadTime :=
      let phase := (pend.map fun c => c.phases.get n).getD (s.headTime.get n).phase
      { s.headTime.get n with
        phase := phase, effPhase := phase % period
        expiry := some ⟨(s.time.syncIndex + 1) % 65536, s.time.nextEpoch + phase % period⟩ }
    let judged (t : TimeBase) : State :=
      if t.quality = s.time.quality then { s with time := t } else { s with
        time := t, report := Safety.withEvent s.report none (.timeQuality s.time.quality t.quality now) }
    let good : TimeBase := { s.time with
      present := true
      refState := if s.time.refState = .free ∨ s.time.refState = .holdover then .acquiring else s.time.refState
      lockUp := if s.time.refState = .free ∨ s.time.refState = .holdover then 0 else s.time.lockUp }
    let lost : TimeBase := { s.time with
      present := false
      refState := match s.time.refState with
        | .acquiring => if s.time.onceLocked then .holdover else .free
        | .locked => .holdover
        | r => r
      lockUp := if s.time.refState = .acquiring then 0 else s.time.lockUp }
    let loses (e : Option Nat) (c : Instr) : Prop :=
      (s.time.refState ≠ .locked → exec c s = .next (judged { lost with lastEdge := e })) ∧
      (s.time.refState = .locked → ∃ t, exec c s = .next t ∧
        Safety.RaisedWith { s with time := { lost with lastEdge := e } } none .refLost now (.timeQuality .locked .holdover now) t)
    (now < s.time.nextEpoch → exec .syncEpoch s = .next s) ∧
    (s.time.nextEpoch ≤ now → exec .syncEpoch s = .next { s with
      time := { s.time with
        period := period, pendingSync := none, syncIndex := (s.time.syncIndex + 1) % 65536
        nextEpoch := s.time.nextEpoch + period }
      headTime := ⟨epoch .h0, epoch .h1, epoch .h2, epoch .h3⟩ }) ∧
    (∀ n, (∀ t, (s.headTime.get n).pulseEnd = some t → t ≤ now → exec (.syncPulseEnd n) s = .next { s with
        headTime := s.headTime.set n { s.headTime.get n with pulseEnd := none } }) ∧
      ((∀ t, (s.headTime.get n).pulseEnd = some t → now < t) → exec (.syncPulseEnd n) s = .next s) ∧
      (let taken := (s.service = .active ∨ s.service = .hold) ∧ (s.ctx.get n).state ≠ .disabled;
        (¬taken → exec (.triggerEdge n) s = .next s) ∧
        (taken → (s.headTime.get n).trigger = none → exec (.triggerEdge n) s = .next { s with
          headTime := s.headTime.set n { s.headTime.get n with
            trigger := some ⟨now, s.time.syncIndex, (s.headTime.get n).window⟩ } }) ∧
        (taken → (s.headTime.get n).trigger ≠ none → exec (.triggerEdge n) s =
          .next (Safety.raised s (some n) .triggerOverrun s.time.syncIndex)))) ∧
    (s.time.lastEdge = none → exec .referenceEdge s = .next { s with time := { s.time with lastEdge := some now } }) ∧
    (∀ e, s.time.lastEdge = some e →
      let isGood := 9 ≤ now - e ∧ now - e ≤ 11
      (isGood → s.time.present = false → exec .referenceEdge s = .next (judged { good with lastEdge := some now })) ∧
      ((isGood ↔ s.time.present = true) → exec .referenceEdge s =
        .next { s with time := { s.time with lastEdge := some now } }) ∧
      (¬isGood → s.time.present = true → loses (some now) .referenceEdge) ∧
      (s.time.present = true → e + 12 ≤ now → loses s.time.lastEdge .referenceTimeout) ∧
      (s.time.present = false ∨ now < e + 12 → exec .referenceTimeout s = .next s)) ∧
    (let reached := s.time.refState = .acquiring ∧ 1048576 ≤ s.time.lockUp;
      (reached → exec .lockUpComplete s =
        .next (judged { s.time with refState := .locked, onceLocked := true, lockUp := 0 })) ∧
      (¬reached → exec .lockUpComplete s = .next s))

/-- A head's sync expiry as a whole: the history, the pulse and the trigger record, then the silence test and the work of the
context's state; and which outcomes carry a name of their own (R34, R42 to R45, R47 to R49, R55, R115 to R117, R121; log 11).
That one of these rows changes nothing before the expiry, or where its outcome does not occur, is the model's choice
(log 1). -/
def Obligations.ExpiryWorks : Prop :=
  ∀ (s : State) (n : Head),
    ((∀ e, (s.headTime.get n).expiry = some e → s.time.timebase < e.time) →
      ∀ c ∈ [Instr.syncExpiry n, .silenceLimit n, .coastLimit n, .searchDwellEnd n, .settleExpiry n, .triggerExpired n],
        exec c s = .next s) ∧
    (∀ e, (s.headTime.get n).expiry = some e → e.time ≤ s.time.timebase →
      let h := s.headTime.get n
      let c := s.ctx.get n
      let set := s.settings.get n
      let log := h.history ++ [⟨e.index, e.time, s.time.period⟩]
      let ends := ∃ r, h.trigger = some r ∧ r.periodsLeft ≤ 1
      let asleep := c.state = .offline ∨ c.state = .disabled ∨ c.state = .parked
      let count := if asleep ∨ c.heard = true then 0 else c.silence + 1
      let silent := ¬asleep ∧ set.silenceLimit ≤ count
      let out := c.timer ≤ 1
      let named (x : Instr) : Prop := x = .syncExpiry n ∨ (x = .triggerExpired n ∧ ends) ∨ (x = .silenceLimit n ∧ silent) ∨
        (¬silent ∧ out ∧ (x = .coastLimit n ∧ c.state = .coasting ∨ x = .searchDwellEnd n ∧ c.state = .searching ∨
          x = .settleExpiry n ∧ c.state = .settling))
      let d : Context := { c with silence := count, heard := false }
      let b : State := { s with
        headTime := s.headTime.set n { h with
          expiry := none, history := log.drop (log.length - 4), pulseEnd := some (e.time + 2000)
          trigger := match h.trigger with
            | some r => if r.periodsLeft ≤ 1 then none else some { r with periodsLeft := r.periodsLeft - 1 }
            | none => none }
        report := match h.trigger with
          | some r => if r.periodsLeft ≤ 1
            then Safety.withEvent s.report (some n) (.triggerExpired r.edgeIndex r.edgeTime) else s.report
          | none => s.report }
      let quiet (c : Context) : State := { b with ctx := s.ctx.set n c }
      let steered (c : Context) (payload : List Byte) : State :=
        { quiet c with ports := s.ports.set n (Safety.withSteer n (s.ports.get n) payload) }
      let search (q : SearchRecord) : List Byte :=
        Safety.aim e.index 1 (if q.ring = 0 then 3 else 2) q.angles.1 q.angles.2
      let faulted (c' : Context) (cause : StateCause) (kind : FaultKind) (x : Instr) : Prop :=
        ∃ t, exec x s = .next t ∧ Safety.RaisedWith (quiet c') (some n) kind e.index (.state c.state c'.state cause) t
      (∀ x ∈ [Instr.silenceLimit n, .coastLimit n, .searchDwellEnd n, .settleExpiry n, .triggerExpired n],
        ¬named x → exec x s = .next s) ∧
      (∀ x, named x →
        (silent → faulted { d with state := .offline, timer := 0, search := none, attempts := 0, silence := 0 }
          .silence .linkSilent x) ∧
        (asleep ∨ ¬silent ∧ (c.state = .locked ∨ c.state = .lost) → exec x s = .next (quiet d)) ∧
        (¬silent → c.state = .coasting → ∀ l, c.newest = some l → ∀ gap : Nat,
          (gap : Int) = ((e.index : Int) - l.index) % 65536 →
          let az := (l.az + c.velAz * gap) % 16777216
          let el := max (-4194304) (min 4194304 (l.el + c.velEl * gap))
          (¬out → exec x s = .next (steered { d with predicted := some (az, el), timer := c.timer - 1 }
            (Safety.aim e.index 1 1 az el))) ∧
          (out →
            let q : SearchRecord := ⟨az, el, set.searchStep, set.searchRings, set.searchDwell, 1, 1, false⟩
            exec x s = .next (Safety.changed b n { d with
              state := .searching, predicted := some (az, el), search := some q, timer := q.dwell } .coastLimit
              (some (search q))))) ∧
        (¬silent → c.state = .searching → ∀ q, c.search = some q →
          (¬out → exec x s = .next (steered { d with timer := c.timer - 1 } (search q))) ∧
          (out → ∀ q', q.next = some q' →
            exec x s = .next (steered { d with search := some q', timer := q.dwell } (search q'))) ∧
          (out → q.next = none →
            faulted { d with state := .lost, search := none, timer := 0 } .searchExhausted .searchExhausted x)) ∧
        (¬silent → c.state = .settling →
          (¬out → exec x s = .next (quiet { d with timer := c.timer - 1 })) ∧
          (out → ∀ l, c.latest = some l → l.admValid = true →
            exec x s = .next (Safety.changed { b with measure := s.measure.set n { s.measure.get n with
                anchor := (l.adm : Int) - (l.count * ((s.measure.get n).countScale : Int) + 2147483648) / 4294967296 } } n
              { d with
                state := .locked, timer := 0, attempts := 0, newest := none, previous := none, velAz := 0, velEl := 0
                predicted := none } .anchored none)) ∧
          (out → (∀ l, c.latest = some l → l.admValid = false) →
            (c.attempts < 3 → exec x s = .next (quiet { d with
              attempts := c.attempts + 1
              timer := [64, 128, 256].getD set.settleSelect 512 })) ∧
            (3 ≤ c.attempts →
              faulted { d with state := .lost, attempts := 0, timer := 0 } .anchorFail .anchorFail x)))))

/-! ### Reports and transmissions (Chapters 7 and 8) -/

/-- The arbiter's entries and the ends of transmissions: a held answer takes the first free place; an event slot, the first
that holds an event from the visiting pointer on, is taken after it and after a drain read that could start; at the end of an
uplink transmission the frame sent leaves its source and the next is chosen (R107, R149, R150, R151, R158, R159, R163, R165,
R167, R168; log 27 for the drain reads counted as outstanding, log 32 for a frame detached by a soft restart, log 39 for a slot
taken in the instant of a crossing). That the end of a head port's transmission takes no frame out of the forward buffer but
the one then chosen, a forwarded Head Command having left it when its transmission began, is the model's choice
(log 15), and so is that one of these rows changes nothing with nothing to enter or nothing in transmission (log 1). And the 15 bytes of each kind of Event payload,
with the codes they hold (R155). -/
def Obligations.ReportsAndTransmissions : Prop :=
  (∀ (k : Option Head) (superseded : Bool),
    let head (code : Nat) : List Byte := [byteOf code,
      match k with
      | some n => byteOf (headNumber n)
      | none => 255,
      if superseded then 1 else 0]
    (∀ old new cause, eventPayload k ⟨.state old new cause, superseded⟩ =
      head 1 ++ [byteOf old.code, byteOf new.code, byteOf cause.code] ++ List.replicate 9 0) ∧
    (∀ kind detail, eventPayload k ⟨.fault kind detail, superseded⟩ =
      head 2 ++ [byteOf kind.code] ++ natLE 8 detail ++ List.replicate 3 0) ∧
    (∀ old new time, eventPayload k ⟨.timeQuality old new time, superseded⟩ =
      head 3 ++ [byteOf old.code, byteOf new.code] ++ natLE 8 time ++ List.replicate 2 0) ∧
    (∀ index time, eventPayload k ⟨.triggerExpired index time, superseded⟩ =
      head 4 ++ natLE 2 index ++ natLE 8 time ++ List.replicate 2 0) ∧
    (∀ (v : PerHead Nat) (doubled : Bool), eventPayload k ⟨.decimation v doubled, superseded⟩ =
      head 5 ++ [byteOf v.h0, byteOf v.h1, byteOf v.h2, byteOf v.h3, if doubled then 1 else 0] ++ List.replicate 7 0)) ∧
  ((∀ p ∈ [(StateCause.returnLost, 1), (.returnFound, 2), (.slip, 3), (.coastLimit, 4), (.searchExhausted, 5),
      (.anchored, 6), (.anchorFail, 7), (.silence, 8), (.motionCommand, 9), (.aim, 10), (.disable, 11), (.enable, 12),
      (.park, 13), (.wake, 14)], p.1.code = p.2) ∧
    (∀ p ∈ [(FaultKind.linkSilent, 1), (.sampleSequence, 2), (.searchExhausted, 3), (.anchorFail, 4), (.distSlip, 5),
      (.cellOverflow, 6), (.captureRefused, 7), (.triggerOverrun, 8), (.refLost, 16), (.badLink, 17), (.chainLimit, 18),
      (.spillFull, 19)], p.1.code = p.2) ∧
    TimeQuality.free.code = 0 ∧ TimeQuality.holdover.code = 1 ∧ TimeQuality.locked.code = 2) ∧
  ∀ s : State,
    let free := s.report.occupancy < 48 ∧ s.restartMark = false
    let entered (r : Report) (f : ReportFrame) (m : Management) : State := { s with
      report := Safety.risen { r with queue := r.queue ++ [f] }
      uplink := s.uplink.choose (r.queue ++ [f]), mgmt := m }
    let order : Option Head → List (Option Head)
      | none => [none, some .h0, some .h1, some .h2, some .h3]
      | some .h0 => [some .h0, some .h1, some .h2, some .h3, none]
      | some .h1 => [some .h1, some .h2, some .h3, none, some .h0]
      | some .h2 => [some .h2, some .h3, none, some .h0, some .h1]
      | some .h3 => [some .h3, none, some .h0, some .h1, some .h2]
    let slot : Option Head → Option HeldEvent
      | none => s.report.partSlot
      | some n => s.report.headSlots.get n
    let drains := (s.service = .active ∨ s.service = .hold) ∧ s.spill.drains.length < s.spill.count ∧
      (∀ w ∈ s.spill.writes, w.pos ≠ (s.spill.readPos + s.spill.drains.length) % 512) ∧
      (s.spill.drains.countP fun d => d.data.isNone) < 4
    (∀ f, s.mgmt.held = some f → free → exec .heldAnswerEntry s =
      .next (entered s.report f { s.mgmt with held := none })) ∧
    (s.mgmt.held = none ∨ ¬free → exec .heldAnswerEntry s = .next s) ∧
    (¬free ∨ s.mgmt.held ≠ none ∨ drains ∨ (∀ k, slot k = none) → exec .eventSlotTaken s = .next s) ∧
    (∀ before k after ev, free → s.mgmt.held = none → ¬drains → order s.report.visiting = before ++ k :: after →
      (∀ j ∈ before, slot j = none) → slot k = some ev →
      let emptied : Report := match k with
        | none => { s.report with partSlot := none }
        | some n => { s.report with headSlots := s.report.headSlots.set n none }
      exec .eventSlotTaken s = .next (entered { emptied with visiting := (order k).getD 1 none }
        ⟨.event, eventPayload k ev⟩ s.mgmt)) ∧
    (s.uplink.sending = none → exec .uplinkTxEnd s = .next s) ∧
    (∀ bytes,
      (s.uplink.sending = some ⟨.report, bytes⟩ → exec .uplinkTxEnd s = .next { s with
        report := Safety.fallen { s.report with queue := s.report.queue.tail }
        uplink := Uplink.choose { s.uplink with sending := none } s.report.queue.tail }) ∧
      (s.uplink.sending = some ⟨.forward, bytes⟩ → exec .uplinkTxEnd s = .next { s with
        uplink := Uplink.choose { s.uplink with sending := none, forward := s.uplink.forward.tail } s.report.queue }) ∧
      (s.uplink.sending = some ⟨.detached, bytes⟩ → exec .uplinkTxEnd s = .next { s with
        uplink := Uplink.choose { s.uplink with sending := none } s.report.queue })) ∧
    (∀ n, exec (.headTxEnd n) s = .next (if (s.ports.get n).sending = none then s else { s with
      ports := s.ports.set n (HeadPort.choose n { s.ports.get n with sending := none }) }))
end

