-- ==== Sys2Proof/Laws/State.lean ====
section
/-! SUPPORT. One lemma for each field of State and each update of one head's share, and the lemmas of PerHead. -/

namespace Sys2Proof.Machine
open Sys2Proof

/-! ### PerHead -/

@[simp] theorem PerHead.get_set_self {α : Type} (p : PerHead α) (n : Head) (v : α) : (p.set n v).get n = v := by
  cases n <;> rfl

theorem PerHead.get_set_ne {α : Type} (p : PerHead α) {n m : Head} (v : α) (h : m ≠ n) : (p.set n v).get m = p.get m := by
  cases n <;> cases m <;> first | rfl | exact absurd rfl h

theorem PerHead.get_set {α : Type} (p : PerHead α) (n m : Head) (v : α) :
    (p.set n v).get m = if m = n then v else p.get m := by
  cases n <;> cases m <;> rfl

@[simp] theorem PerHead.get_all {α : Type} (v : α) (n : Head) : (PerHead.all v).get n = v := by cases n <;> rfl

@[simp] theorem PerHead.get_map {α β : Type} (f : α → β) (p : PerHead α) (n : Head) : (p.map f).get n = f (p.get n) := by
  cases n <;> rfl

@[simp] theorem PerHead.set_get {α : Type} (p : PerHead α) (n : Head) : p.set n (p.get n) = p := by cases n <;> rfl

@[simp] theorem PerHead.set_set {α : Type} (p : PerHead α) (n : Head) (v w : α) : (p.set n v).set n w = p.set n w := by
  cases n <;> rfl

/-- Two values for each head are equal when they agree at each head. -/
theorem PerHead.ext_get {α : Type} {p q : PerHead α} (h : ∀ n, p.get n = q.get n) : p = q := by
  cases p; cases q
  have h0 := h .h0; have h1 := h .h1; have h2 := h .h2; have h3 := h .h3
  simp only [PerHead.get] at h0 h1 h2 h3; subst h0 h1 h2 h3; rfl

/-! ### One lemma per field per update -/

namespace State
variable (s : State) (n : Head) (c : Context)
@[simp] theorem setCtx_pending : (s.setCtx n c).pending = s.pending := rfl
@[simp] theorem setCtx_freeCount : (s.setCtx n c).freeCount = s.freeCount := rfl
@[simp] theorem setCtx_resetCount : (s.setCtx n c).resetCount = s.resetCount := rfl
@[simp] theorem setCtx_service : (s.setCtx n c).service = s.service := rfl
@[simp] theorem setCtx_restartMark : (s.setCtx n c).restartMark = s.restartMark := rfl
@[simp] theorem setCtx_headFaults : (s.setCtx n c).headFaults = s.headFaults := rfl
@[simp] theorem setCtx_partFault : (s.setCtx n c).partFault = s.partFault := rfl
@[simp] theorem setCtx_measure : (s.setCtx n c).measure = s.measure := rfl
@[simp] theorem setCtx_ctx : (s.setCtx n c).ctx = s.ctx.set n c := rfl
@[simp] theorem setCtx_settings : (s.setCtx n c).settings = s.settings := rfl
@[simp] theorem setCtx_lookup : (s.setCtx n c).lookup = s.lookup := rfl
@[simp] theorem setCtx_waiting : (s.setCtx n c).waiting = s.waiting := rfl
@[simp] theorem setCtx_settle : (s.setCtx n c).settle = s.settle := rfl
@[simp] theorem setCtx_behind : (s.setCtx n c).behind = s.behind := rfl
@[simp] theorem setCtx_capture : (s.setCtx n c).capture = s.capture := rfl
@[simp] theorem setCtx_spill : (s.setCtx n c).spill = s.spill := rfl
@[simp] theorem setCtx_time : (s.setCtx n c).time = s.time := rfl
@[simp] theorem setCtx_headTime : (s.setCtx n c).headTime = s.headTime := rfl
@[simp] theorem setCtx_mem : (s.setCtx n c).mem = s.mem := rfl
@[simp] theorem setCtx_cells : (s.setCtx n c).cells = s.cells := rfl
@[simp] theorem setCtx_report : (s.setCtx n c).report = s.report := rfl
@[simp] theorem setCtx_ports : (s.setCtx n c).ports = s.ports := rfl
@[simp] theorem setCtx_uplink : (s.setCtx n c).uplink = s.uplink := rfl
@[simp] theorem setCtx_mgmt : (s.setCtx n c).mgmt = s.mgmt := rfl
end State

namespace State
variable (s : State) (n : Head) (v : TrackSettings)
@[simp] theorem setSettings_pending : (s.setSettings n v).pending = s.pending := rfl
@[simp] theorem setSettings_freeCount : (s.setSettings n v).freeCount = s.freeCount := rfl
@[simp] theorem setSettings_resetCount : (s.setSettings n v).resetCount = s.resetCount := rfl
@[simp] theorem setSettings_service : (s.setSettings n v).service = s.service := rfl
@[simp] theorem setSettings_restartMark : (s.setSettings n v).restartMark = s.restartMark := rfl
@[simp] theorem setSettings_headFaults : (s.setSettings n v).headFaults = s.headFaults := rfl
@[simp] theorem setSettings_partFault : (s.setSettings n v).partFault = s.partFault := rfl
@[simp] theorem setSettings_measure : (s.setSettings n v).measure = s.measure := rfl
@[simp] theorem setSettings_ctx : (s.setSettings n v).ctx = s.ctx := rfl
@[simp] theorem setSettings_settings : (s.setSettings n v).settings = s.settings.set n v := rfl
@[simp] theorem setSettings_lookup : (s.setSettings n v).lookup = s.lookup := rfl
@[simp] theorem setSettings_waiting : (s.setSettings n v).waiting = s.waiting := rfl
@[simp] theorem setSettings_settle : (s.setSettings n v).settle = s.settle := rfl
@[simp] theorem setSettings_behind : (s.setSettings n v).behind = s.behind := rfl
@[simp] theorem setSettings_capture : (s.setSettings n v).capture = s.capture := rfl
@[simp] theorem setSettings_spill : (s.setSettings n v).spill = s.spill := rfl
@[simp] theorem setSettings_time : (s.setSettings n v).time = s.time := rfl
@[simp] theorem setSettings_headTime : (s.setSettings n v).headTime = s.headTime := rfl
@[simp] theorem setSettings_mem : (s.setSettings n v).mem = s.mem := rfl
@[simp] theorem setSettings_cells : (s.setSettings n v).cells = s.cells := rfl
@[simp] theorem setSettings_report : (s.setSettings n v).report = s.report := rfl
@[simp] theorem setSettings_ports : (s.setSettings n v).ports = s.ports := rfl
@[simp] theorem setSettings_uplink : (s.setSettings n v).uplink = s.uplink := rfl
@[simp] theorem setSettings_mgmt : (s.setSettings n v).mgmt = s.mgmt := rfl
end State

namespace State
variable (s : State) (n : Head) (m : Measure)
@[simp] theorem setMeasure_pending : (s.setMeasure n m).pending = s.pending := rfl
@[simp] theorem setMeasure_freeCount : (s.setMeasure n m).freeCount = s.freeCount := rfl
@[simp] theorem setMeasure_resetCount : (s.setMeasure n m).resetCount = s.resetCount := rfl
@[simp] theorem setMeasure_service : (s.setMeasure n m).service = s.service := rfl
@[simp] theorem setMeasure_restartMark : (s.setMeasure n m).restartMark = s.restartMark := rfl
@[simp] theorem setMeasure_headFaults : (s.setMeasure n m).headFaults = s.headFaults := rfl
@[simp] theorem setMeasure_partFault : (s.setMeasure n m).partFault = s.partFault := rfl
@[simp] theorem setMeasure_measure : (s.setMeasure n m).measure = s.measure.set n m := rfl
@[simp] theorem setMeasure_ctx : (s.setMeasure n m).ctx = s.ctx := rfl
@[simp] theorem setMeasure_settings : (s.setMeasure n m).settings = s.settings := rfl
@[simp] theorem setMeasure_lookup : (s.setMeasure n m).lookup = s.lookup := rfl
@[simp] theorem setMeasure_waiting : (s.setMeasure n m).waiting = s.waiting := rfl
@[simp] theorem setMeasure_settle : (s.setMeasure n m).settle = s.settle := rfl
@[simp] theorem setMeasure_behind : (s.setMeasure n m).behind = s.behind := rfl
@[simp] theorem setMeasure_capture : (s.setMeasure n m).capture = s.capture := rfl
@[simp] theorem setMeasure_spill : (s.setMeasure n m).spill = s.spill := rfl
@[simp] theorem setMeasure_time : (s.setMeasure n m).time = s.time := rfl
@[simp] theorem setMeasure_headTime : (s.setMeasure n m).headTime = s.headTime := rfl
@[simp] theorem setMeasure_mem : (s.setMeasure n m).mem = s.mem := rfl
@[simp] theorem setMeasure_cells : (s.setMeasure n m).cells = s.cells := rfl
@[simp] theorem setMeasure_report : (s.setMeasure n m).report = s.report := rfl
@[simp] theorem setMeasure_ports : (s.setMeasure n m).ports = s.ports := rfl
@[simp] theorem setMeasure_uplink : (s.setMeasure n m).uplink = s.uplink := rfl
@[simp] theorem setMeasure_mgmt : (s.setMeasure n m).mgmt = s.mgmt := rfl
end State

namespace State
variable (s : State) (n : Head) (h : HeadTime)
@[simp] theorem setHeadTime_pending : (s.setHeadTime n h).pending = s.pending := rfl
@[simp] theorem setHeadTime_freeCount : (s.setHeadTime n h).freeCount = s.freeCount := rfl
@[simp] theorem setHeadTime_resetCount : (s.setHeadTime n h).resetCount = s.resetCount := rfl
@[simp] theorem setHeadTime_service : (s.setHeadTime n h).service = s.service := rfl
@[simp] theorem setHeadTime_restartMark : (s.setHeadTime n h).restartMark = s.restartMark := rfl
@[simp] theorem setHeadTime_headFaults : (s.setHeadTime n h).headFaults = s.headFaults := rfl
@[simp] theorem setHeadTime_partFault : (s.setHeadTime n h).partFault = s.partFault := rfl
@[simp] theorem setHeadTime_measure : (s.setHeadTime n h).measure = s.measure := rfl
@[simp] theorem setHeadTime_ctx : (s.setHeadTime n h).ctx = s.ctx := rfl
@[simp] theorem setHeadTime_settings : (s.setHeadTime n h).settings = s.settings := rfl
@[simp] theorem setHeadTime_lookup : (s.setHeadTime n h).lookup = s.lookup := rfl
@[simp] theorem setHeadTime_waiting : (s.setHeadTime n h).waiting = s.waiting := rfl
@[simp] theorem setHeadTime_settle : (s.setHeadTime n h).settle = s.settle := rfl
@[simp] theorem setHeadTime_behind : (s.setHeadTime n h).behind = s.behind := rfl
@[simp] theorem setHeadTime_capture : (s.setHeadTime n h).capture = s.capture := rfl
@[simp] theorem setHeadTime_spill : (s.setHeadTime n h).spill = s.spill := rfl
@[simp] theorem setHeadTime_time : (s.setHeadTime n h).time = s.time := rfl
@[simp] theorem setHeadTime_headTime : (s.setHeadTime n h).headTime = s.headTime.set n h := rfl
@[simp] theorem setHeadTime_mem : (s.setHeadTime n h).mem = s.mem := rfl
@[simp] theorem setHeadTime_cells : (s.setHeadTime n h).cells = s.cells := rfl
@[simp] theorem setHeadTime_report : (s.setHeadTime n h).report = s.report := rfl
@[simp] theorem setHeadTime_ports : (s.setHeadTime n h).ports = s.ports := rfl
@[simp] theorem setHeadTime_uplink : (s.setHeadTime n h).uplink = s.uplink := rfl
@[simp] theorem setHeadTime_mgmt : (s.setHeadTime n h).mgmt = s.mgmt := rfl
end State

namespace State
variable (s : State) (n : Head) (p : HeadPort)
@[simp] theorem setPort_pending : (s.setPort n p).pending = s.pending := rfl
@[simp] theorem setPort_freeCount : (s.setPort n p).freeCount = s.freeCount := rfl
@[simp] theorem setPort_resetCount : (s.setPort n p).resetCount = s.resetCount := rfl
@[simp] theorem setPort_service : (s.setPort n p).service = s.service := rfl
@[simp] theorem setPort_restartMark : (s.setPort n p).restartMark = s.restartMark := rfl
@[simp] theorem setPort_headFaults : (s.setPort n p).headFaults = s.headFaults := rfl
@[simp] theorem setPort_partFault : (s.setPort n p).partFault = s.partFault := rfl
@[simp] theorem setPort_measure : (s.setPort n p).measure = s.measure := rfl
@[simp] theorem setPort_ctx : (s.setPort n p).ctx = s.ctx := rfl
@[simp] theorem setPort_settings : (s.setPort n p).settings = s.settings := rfl
@[simp] theorem setPort_lookup : (s.setPort n p).lookup = s.lookup := rfl
@[simp] theorem setPort_waiting : (s.setPort n p).waiting = s.waiting := rfl
@[simp] theorem setPort_settle : (s.setPort n p).settle = s.settle := rfl
@[simp] theorem setPort_behind : (s.setPort n p).behind = s.behind := rfl
@[simp] theorem setPort_capture : (s.setPort n p).capture = s.capture := rfl
@[simp] theorem setPort_spill : (s.setPort n p).spill = s.spill := rfl
@[simp] theorem setPort_time : (s.setPort n p).time = s.time := rfl
@[simp] theorem setPort_headTime : (s.setPort n p).headTime = s.headTime := rfl
@[simp] theorem setPort_mem : (s.setPort n p).mem = s.mem := rfl
@[simp] theorem setPort_cells : (s.setPort n p).cells = s.cells := rfl
@[simp] theorem setPort_report : (s.setPort n p).report = s.report := rfl
@[simp] theorem setPort_ports : (s.setPort n p).ports = s.ports.set n p := rfl
@[simp] theorem setPort_uplink : (s.setPort n p).uplink = s.uplink := rfl
@[simp] theorem setPort_mgmt : (s.setPort n p).mgmt = s.mgmt := rfl
end State

namespace State
variable (s : State) (n : Head) (w : Option WaitingSample)
@[simp] theorem setWaiting_pending : (s.setWaiting n w).pending = s.pending := rfl
@[simp] theorem setWaiting_freeCount : (s.setWaiting n w).freeCount = s.freeCount := rfl
@[simp] theorem setWaiting_resetCount : (s.setWaiting n w).resetCount = s.resetCount := rfl
@[simp] theorem setWaiting_service : (s.setWaiting n w).service = s.service := rfl
@[simp] theorem setWaiting_restartMark : (s.setWaiting n w).restartMark = s.restartMark := rfl
@[simp] theorem setWaiting_headFaults : (s.setWaiting n w).headFaults = s.headFaults := rfl
@[simp] theorem setWaiting_partFault : (s.setWaiting n w).partFault = s.partFault := rfl
@[simp] theorem setWaiting_measure : (s.setWaiting n w).measure = s.measure := rfl
@[simp] theorem setWaiting_ctx : (s.setWaiting n w).ctx = s.ctx := rfl
@[simp] theorem setWaiting_settings : (s.setWaiting n w).settings = s.settings := rfl
@[simp] theorem setWaiting_lookup : (s.setWaiting n w).lookup = s.lookup := rfl
@[simp] theorem setWaiting_waiting : (s.setWaiting n w).waiting = s.waiting.set n w := rfl
@[simp] theorem setWaiting_settle : (s.setWaiting n w).settle = s.settle := rfl
@[simp] theorem setWaiting_behind : (s.setWaiting n w).behind = s.behind := rfl
@[simp] theorem setWaiting_capture : (s.setWaiting n w).capture = s.capture := rfl
@[simp] theorem setWaiting_spill : (s.setWaiting n w).spill = s.spill := rfl
@[simp] theorem setWaiting_time : (s.setWaiting n w).time = s.time := rfl
@[simp] theorem setWaiting_headTime : (s.setWaiting n w).headTime = s.headTime := rfl
@[simp] theorem setWaiting_mem : (s.setWaiting n w).mem = s.mem := rfl
@[simp] theorem setWaiting_cells : (s.setWaiting n w).cells = s.cells := rfl
@[simp] theorem setWaiting_report : (s.setWaiting n w).report = s.report := rfl
@[simp] theorem setWaiting_ports : (s.setWaiting n w).ports = s.ports := rfl
@[simp] theorem setWaiting_uplink : (s.setWaiting n w).uplink = s.uplink := rfl
@[simp] theorem setWaiting_mgmt : (s.setWaiting n w).mgmt = s.mgmt := rfl
end State

namespace State
variable (s : State) (n : Head) (q : SettleQueue)
@[simp] theorem setSettle_pending : (s.setSettle n q).pending = s.pending := rfl
@[simp] theorem setSettle_freeCount : (s.setSettle n q).freeCount = s.freeCount := rfl
@[simp] theorem setSettle_resetCount : (s.setSettle n q).resetCount = s.resetCount := rfl
@[simp] theorem setSettle_service : (s.setSettle n q).service = s.service := rfl
@[simp] theorem setSettle_restartMark : (s.setSettle n q).restartMark = s.restartMark := rfl
@[simp] theorem setSettle_headFaults : (s.setSettle n q).headFaults = s.headFaults := rfl
@[simp] theorem setSettle_partFault : (s.setSettle n q).partFault = s.partFault := rfl
@[simp] theorem setSettle_measure : (s.setSettle n q).measure = s.measure := rfl
@[simp] theorem setSettle_ctx : (s.setSettle n q).ctx = s.ctx := rfl
@[simp] theorem setSettle_settings : (s.setSettle n q).settings = s.settings := rfl
@[simp] theorem setSettle_lookup : (s.setSettle n q).lookup = s.lookup := rfl
@[simp] theorem setSettle_waiting : (s.setSettle n q).waiting = s.waiting := rfl
@[simp] theorem setSettle_settle : (s.setSettle n q).settle = s.settle.set n q := rfl
@[simp] theorem setSettle_behind : (s.setSettle n q).behind = s.behind := rfl
@[simp] theorem setSettle_capture : (s.setSettle n q).capture = s.capture := rfl
@[simp] theorem setSettle_spill : (s.setSettle n q).spill = s.spill := rfl
@[simp] theorem setSettle_time : (s.setSettle n q).time = s.time := rfl
@[simp] theorem setSettle_headTime : (s.setSettle n q).headTime = s.headTime := rfl
@[simp] theorem setSettle_mem : (s.setSettle n q).mem = s.mem := rfl
@[simp] theorem setSettle_cells : (s.setSettle n q).cells = s.cells := rfl
@[simp] theorem setSettle_report : (s.setSettle n q).report = s.report := rfl
@[simp] theorem setSettle_ports : (s.setSettle n q).ports = s.ports := rfl
@[simp] theorem setSettle_uplink : (s.setSettle n q).uplink = s.uplink := rfl
@[simp] theorem setSettle_mgmt : (s.setSettle n q).mgmt = s.mgmt := rfl
end State

namespace State
variable (s : State) (n : Head) (l : List Handed)
@[simp] theorem setBehind_pending : (s.setBehind n l).pending = s.pending := rfl
@[simp] theorem setBehind_freeCount : (s.setBehind n l).freeCount = s.freeCount := rfl
@[simp] theorem setBehind_resetCount : (s.setBehind n l).resetCount = s.resetCount := rfl
@[simp] theorem setBehind_service : (s.setBehind n l).service = s.service := rfl
@[simp] theorem setBehind_restartMark : (s.setBehind n l).restartMark = s.restartMark := rfl
@[simp] theorem setBehind_headFaults : (s.setBehind n l).headFaults = s.headFaults := rfl
@[simp] theorem setBehind_partFault : (s.setBehind n l).partFault = s.partFault := rfl
@[simp] theorem setBehind_measure : (s.setBehind n l).measure = s.measure := rfl
@[simp] theorem setBehind_ctx : (s.setBehind n l).ctx = s.ctx := rfl
@[simp] theorem setBehind_settings : (s.setBehind n l).settings = s.settings := rfl
@[simp] theorem setBehind_lookup : (s.setBehind n l).lookup = s.lookup := rfl
@[simp] theorem setBehind_waiting : (s.setBehind n l).waiting = s.waiting := rfl
@[simp] theorem setBehind_settle : (s.setBehind n l).settle = s.settle := rfl
@[simp] theorem setBehind_behind : (s.setBehind n l).behind = s.behind.set n l := rfl
@[simp] theorem setBehind_capture : (s.setBehind n l).capture = s.capture := rfl
@[simp] theorem setBehind_spill : (s.setBehind n l).spill = s.spill := rfl
@[simp] theorem setBehind_time : (s.setBehind n l).time = s.time := rfl
@[simp] theorem setBehind_headTime : (s.setBehind n l).headTime = s.headTime := rfl
@[simp] theorem setBehind_mem : (s.setBehind n l).mem = s.mem := rfl
@[simp] theorem setBehind_cells : (s.setBehind n l).cells = s.cells := rfl
@[simp] theorem setBehind_report : (s.setBehind n l).report = s.report := rfl
@[simp] theorem setBehind_ports : (s.setBehind n l).ports = s.ports := rfl
@[simp] theorem setBehind_uplink : (s.setBehind n l).uplink = s.uplink := rfl
@[simp] theorem setBehind_mgmt : (s.setBehind n l).mgmt = s.mgmt := rfl
end State

namespace State
variable (s : State) (n : Head) (r : FaultRecord)
@[simp] theorem setHeadFault_pending : (s.setHeadFault n r).pending = s.pending := rfl
@[simp] theorem setHeadFault_freeCount : (s.setHeadFault n r).freeCount = s.freeCount := rfl
@[simp] theorem setHeadFault_resetCount : (s.setHeadFault n r).resetCount = s.resetCount := rfl
@[simp] theorem setHeadFault_service : (s.setHeadFault n r).service = s.service := rfl
@[simp] theorem setHeadFault_restartMark : (s.setHeadFault n r).restartMark = s.restartMark := rfl
@[simp] theorem setHeadFault_headFaults : (s.setHeadFault n r).headFaults = s.headFaults.set n r := rfl
@[simp] theorem setHeadFault_partFault : (s.setHeadFault n r).partFault = s.partFault := rfl
@[simp] theorem setHeadFault_measure : (s.setHeadFault n r).measure = s.measure := rfl
@[simp] theorem setHeadFault_ctx : (s.setHeadFault n r).ctx = s.ctx := rfl
@[simp] theorem setHeadFault_settings : (s.setHeadFault n r).settings = s.settings := rfl
@[simp] theorem setHeadFault_lookup : (s.setHeadFault n r).lookup = s.lookup := rfl
@[simp] theorem setHeadFault_waiting : (s.setHeadFault n r).waiting = s.waiting := rfl
@[simp] theorem setHeadFault_settle : (s.setHeadFault n r).settle = s.settle := rfl
@[simp] theorem setHeadFault_behind : (s.setHeadFault n r).behind = s.behind := rfl
@[simp] theorem setHeadFault_capture : (s.setHeadFault n r).capture = s.capture := rfl
@[simp] theorem setHeadFault_spill : (s.setHeadFault n r).spill = s.spill := rfl
@[simp] theorem setHeadFault_time : (s.setHeadFault n r).time = s.time := rfl
@[simp] theorem setHeadFault_headTime : (s.setHeadFault n r).headTime = s.headTime := rfl
@[simp] theorem setHeadFault_mem : (s.setHeadFault n r).mem = s.mem := rfl
@[simp] theorem setHeadFault_cells : (s.setHeadFault n r).cells = s.cells := rfl
@[simp] theorem setHeadFault_report : (s.setHeadFault n r).report = s.report := rfl
@[simp] theorem setHeadFault_ports : (s.setHeadFault n r).ports = s.ports := rfl
@[simp] theorem setHeadFault_uplink : (s.setHeadFault n r).uplink = s.uplink := rfl
@[simp] theorem setHeadFault_mgmt : (s.setHeadFault n r).mgmt = s.mgmt := rfl
end State

namespace State
variable (s : State) (n : Head) (d : Decimation)
@[simp] theorem setDecimation_pending : (s.setDecimation n d).pending = s.pending := rfl
@[simp] theorem setDecimation_freeCount : (s.setDecimation n d).freeCount = s.freeCount := rfl
@[simp] theorem setDecimation_resetCount : (s.setDecimation n d).resetCount = s.resetCount := rfl
@[simp] theorem setDecimation_service : (s.setDecimation n d).service = s.service := rfl
@[simp] theorem setDecimation_restartMark : (s.setDecimation n d).restartMark = s.restartMark := rfl
@[simp] theorem setDecimation_headFaults : (s.setDecimation n d).headFaults = s.headFaults := rfl
@[simp] theorem setDecimation_partFault : (s.setDecimation n d).partFault = s.partFault := rfl
@[simp] theorem setDecimation_measure : (s.setDecimation n d).measure = s.measure := rfl
@[simp] theorem setDecimation_ctx : (s.setDecimation n d).ctx = s.ctx := rfl
@[simp] theorem setDecimation_settings : (s.setDecimation n d).settings = s.settings := rfl
@[simp] theorem setDecimation_lookup : (s.setDecimation n d).lookup = s.lookup := rfl
@[simp] theorem setDecimation_waiting : (s.setDecimation n d).waiting = s.waiting := rfl
@[simp] theorem setDecimation_settle : (s.setDecimation n d).settle = s.settle := rfl
@[simp] theorem setDecimation_behind : (s.setDecimation n d).behind = s.behind := rfl
@[simp] theorem setDecimation_capture : (s.setDecimation n d).capture = s.capture := rfl
@[simp] theorem setDecimation_spill : (s.setDecimation n d).spill = s.spill := rfl
@[simp] theorem setDecimation_time : (s.setDecimation n d).time = s.time := rfl
@[simp] theorem setDecimation_headTime : (s.setDecimation n d).headTime = s.headTime := rfl
@[simp] theorem setDecimation_mem : (s.setDecimation n d).mem = s.mem := rfl
@[simp] theorem setDecimation_cells : (s.setDecimation n d).cells = s.cells := rfl
@[simp] theorem setDecimation_ports : (s.setDecimation n d).ports = s.ports := rfl
@[simp] theorem setDecimation_uplink : (s.setDecimation n d).uplink = s.uplink := rfl
@[simp] theorem setDecimation_mgmt : (s.setDecimation n d).mgmt = s.mgmt := rfl
@[simp] theorem setDecimation_decimation : (s.setDecimation n d).report.decimation = s.report.decimation.set n d := rfl
@[simp] theorem setDecimation_queue : (s.setDecimation n d).report.queue = s.report.queue := rfl
@[simp] theorem setDecimation_reserved : (s.setDecimation n d).report.reserved = s.report.reserved := rfl
end State

end Sys2Proof.Machine
end

