-- ==== Sys2Proof/Laws/Frames.lean ====
section
/-! SUPPORT. For each shared operation, the parts of the state it leaves as they are: one lemma each, a conjunction that simp
splits into one rule for each part. -/

namespace Sys2Proof.Machine
open Sys2Proof

/-- What every step of a fold keeps, the fold keeps. -/
theorem foldl_keeps {α β : Type} (π : State → β) (f : State → α → State) (h : ∀ s a, π (f s a) = π s) (l : List α) (s : State) :
    π (l.foldl f s) = π s := by
  induction l generalizing s with
  | nil => rfl
  | cons a l ih => exact (ih (f s a)).trans (h s a)

@[simp] theorem freelyOrdered_frame {α : Type} (l : List α) (s : State) :
    (freelyOrdered l s).2.pending = s.pending ∧ (freelyOrdered l s).2.resetCount = s.resetCount ∧
    (freelyOrdered l s).2.service = s.service ∧ (freelyOrdered l s).2.restartMark = s.restartMark ∧
    (freelyOrdered l s).2.headFaults = s.headFaults ∧ (freelyOrdered l s).2.partFault = s.partFault ∧
    (freelyOrdered l s).2.measure = s.measure ∧ (freelyOrdered l s).2.ctx = s.ctx ∧
    (freelyOrdered l s).2.settings = s.settings ∧ (freelyOrdered l s).2.lookup = s.lookup ∧
    (freelyOrdered l s).2.waiting = s.waiting ∧ (freelyOrdered l s).2.settle = s.settle ∧
    (freelyOrdered l s).2.behind = s.behind ∧ (freelyOrdered l s).2.capture = s.capture ∧
    (freelyOrdered l s).2.spill = s.spill ∧ (freelyOrdered l s).2.time = s.time ∧
    (freelyOrdered l s).2.headTime = s.headTime ∧ (freelyOrdered l s).2.mem = s.mem ∧
    (freelyOrdered l s).2.cells = s.cells ∧ (freelyOrdered l s).2.report = s.report ∧
    (freelyOrdered l s).2.ports = s.ports ∧ (freelyOrdered l s).2.uplink = s.uplink ∧
    (freelyOrdered l s).2.mgmt = s.mgmt := by
  unfold freelyOrdered; split <;> simp

@[simp] theorem State.kickHead_frame (s : State) (n : Head) :
    (s.kickHead n).pending = s.pending ∧ (s.kickHead n).freeCount = s.freeCount ∧
    (s.kickHead n).resetCount = s.resetCount ∧ (s.kickHead n).service = s.service ∧
    (s.kickHead n).restartMark = s.restartMark ∧ (s.kickHead n).headFaults = s.headFaults ∧
    (s.kickHead n).partFault = s.partFault ∧ (s.kickHead n).measure = s.measure ∧ (s.kickHead n).ctx = s.ctx ∧
    (s.kickHead n).settings = s.settings ∧ (s.kickHead n).lookup = s.lookup ∧ (s.kickHead n).waiting = s.waiting ∧
    (s.kickHead n).settle = s.settle ∧ (s.kickHead n).behind = s.behind ∧ (s.kickHead n).capture = s.capture ∧
    (s.kickHead n).spill = s.spill ∧ (s.kickHead n).time = s.time ∧ (s.kickHead n).headTime = s.headTime ∧
    (s.kickHead n).mem = s.mem ∧ (s.kickHead n).cells = s.cells ∧ (s.kickHead n).report = s.report ∧
    (s.kickHead n).uplink = s.uplink ∧ (s.kickHead n).mgmt = s.mgmt := by simp [State.kickHead]

@[simp] theorem State.kickUplink_frame (s : State) :
    (s.kickUplink).pending = s.pending ∧ (s.kickUplink).freeCount = s.freeCount ∧
    (s.kickUplink).resetCount = s.resetCount ∧ (s.kickUplink).service = s.service ∧
    (s.kickUplink).restartMark = s.restartMark ∧ (s.kickUplink).headFaults = s.headFaults ∧
    (s.kickUplink).partFault = s.partFault ∧ (s.kickUplink).measure = s.measure ∧ (s.kickUplink).ctx = s.ctx ∧
    (s.kickUplink).settings = s.settings ∧ (s.kickUplink).lookup = s.lookup ∧ (s.kickUplink).waiting = s.waiting ∧
    (s.kickUplink).settle = s.settle ∧ (s.kickUplink).behind = s.behind ∧ (s.kickUplink).capture = s.capture ∧
    (s.kickUplink).spill = s.spill ∧ (s.kickUplink).time = s.time ∧ (s.kickUplink).headTime = s.headTime ∧
    (s.kickUplink).mem = s.mem ∧ (s.kickUplink).cells = s.cells ∧ (s.kickUplink).report = s.report ∧
    (s.kickUplink).ports = s.ports ∧ (s.kickUplink).mgmt = s.mgmt := by simp [State.kickUplink]

@[simp] theorem State.countBad_frame (s : State) (p : Port) :
    (s.countBad p).pending = s.pending ∧ (s.countBad p).freeCount = s.freeCount ∧
    (s.countBad p).resetCount = s.resetCount ∧ (s.countBad p).service = s.service ∧
    (s.countBad p).restartMark = s.restartMark ∧ (s.countBad p).headFaults = s.headFaults ∧
    (s.countBad p).partFault = s.partFault ∧ (s.countBad p).measure = s.measure ∧ (s.countBad p).ctx = s.ctx ∧
    (s.countBad p).settings = s.settings ∧ (s.countBad p).lookup = s.lookup ∧ (s.countBad p).waiting = s.waiting ∧
    (s.countBad p).settle = s.settle ∧ (s.countBad p).behind = s.behind ∧ (s.countBad p).capture = s.capture ∧
    (s.countBad p).spill = s.spill ∧ (s.countBad p).time = s.time ∧ (s.countBad p).headTime = s.headTime ∧
    (s.countBad p).mem = s.mem ∧ (s.countBad p).cells = s.cells ∧ (s.countBad p).report = s.report ∧
    (s.countBad p).mgmt = s.mgmt := by cases p <;> simp [State.countBad]

@[simp] theorem State.linkUp_frame (s : State) (p : Port) :
    (s.linkUp p).pending = s.pending ∧ (s.linkUp p).freeCount = s.freeCount ∧
    (s.linkUp p).resetCount = s.resetCount ∧ (s.linkUp p).service = s.service ∧
    (s.linkUp p).restartMark = s.restartMark ∧ (s.linkUp p).headFaults = s.headFaults ∧
    (s.linkUp p).partFault = s.partFault ∧ (s.linkUp p).measure = s.measure ∧ (s.linkUp p).ctx = s.ctx ∧
    (s.linkUp p).settings = s.settings ∧ (s.linkUp p).lookup = s.lookup ∧ (s.linkUp p).waiting = s.waiting ∧
    (s.linkUp p).settle = s.settle ∧ (s.linkUp p).behind = s.behind ∧ (s.linkUp p).capture = s.capture ∧
    (s.linkUp p).spill = s.spill ∧ (s.linkUp p).time = s.time ∧ (s.linkUp p).headTime = s.headTime ∧
    (s.linkUp p).mem = s.mem ∧ (s.linkUp p).cells = s.cells ∧ (s.linkUp p).report = s.report ∧
    (s.linkUp p).mgmt = s.mgmt := by cases p <;> simp [State.linkUp]

@[simp] theorem State.forwardUp_frame (s : State) (n : Head) (f : List Byte) :
    (s.forwardUp n f).pending = s.pending ∧ (s.forwardUp n f).freeCount = s.freeCount ∧
    (s.forwardUp n f).resetCount = s.resetCount ∧ (s.forwardUp n f).service = s.service ∧
    (s.forwardUp n f).restartMark = s.restartMark ∧ (s.forwardUp n f).headFaults = s.headFaults ∧
    (s.forwardUp n f).partFault = s.partFault ∧ (s.forwardUp n f).measure = s.measure ∧
    (s.forwardUp n f).ctx = s.ctx ∧ (s.forwardUp n f).settings = s.settings ∧
    (s.forwardUp n f).lookup = s.lookup ∧ (s.forwardUp n f).waiting = s.waiting ∧
    (s.forwardUp n f).settle = s.settle ∧ (s.forwardUp n f).behind = s.behind ∧
    (s.forwardUp n f).capture = s.capture ∧ (s.forwardUp n f).spill = s.spill ∧ (s.forwardUp n f).time = s.time ∧
    (s.forwardUp n f).headTime = s.headTime ∧ (s.forwardUp n f).mem = s.mem ∧ (s.forwardUp n f).cells = s.cells ∧
    (s.forwardUp n f).report = s.report ∧ (s.forwardUp n f).mgmt = s.mgmt := by
  unfold State.forwardUp
  (repeat' split) <;> simp

@[simp] theorem State.bufferRequest_frame (s : State) (f : List Byte) :
    (s.bufferRequest f).pending = s.pending ∧ (s.bufferRequest f).freeCount = s.freeCount ∧
    (s.bufferRequest f).resetCount = s.resetCount ∧ (s.bufferRequest f).service = s.service ∧
    (s.bufferRequest f).restartMark = s.restartMark ∧ (s.bufferRequest f).headFaults = s.headFaults ∧
    (s.bufferRequest f).partFault = s.partFault ∧ (s.bufferRequest f).measure = s.measure ∧
    (s.bufferRequest f).ctx = s.ctx ∧ (s.bufferRequest f).settings = s.settings ∧
    (s.bufferRequest f).lookup = s.lookup ∧ (s.bufferRequest f).waiting = s.waiting ∧
    (s.bufferRequest f).settle = s.settle ∧ (s.bufferRequest f).behind = s.behind ∧
    (s.bufferRequest f).capture = s.capture ∧ (s.bufferRequest f).spill = s.spill ∧
    (s.bufferRequest f).time = s.time ∧ (s.bufferRequest f).headTime = s.headTime ∧
    (s.bufferRequest f).mem = s.mem ∧ (s.bufferRequest f).cells = s.cells ∧
    (s.bufferRequest f).report = s.report ∧ (s.bufferRequest f).mgmt = s.mgmt := by
  unfold State.bufferRequest
  (repeat' split) <;> simp

@[simp] theorem State.placeEvent_frame (s : State) (k : Option Head) (e : Event) :
    (s.placeEvent k e).pending = s.pending ∧ (s.placeEvent k e).freeCount = s.freeCount ∧
    (s.placeEvent k e).resetCount = s.resetCount ∧ (s.placeEvent k e).service = s.service ∧
    (s.placeEvent k e).restartMark = s.restartMark ∧ (s.placeEvent k e).headFaults = s.headFaults ∧
    (s.placeEvent k e).partFault = s.partFault ∧ (s.placeEvent k e).measure = s.measure ∧
    (s.placeEvent k e).ctx = s.ctx ∧ (s.placeEvent k e).settings = s.settings ∧
    (s.placeEvent k e).lookup = s.lookup ∧ (s.placeEvent k e).waiting = s.waiting ∧
    (s.placeEvent k e).settle = s.settle ∧ (s.placeEvent k e).behind = s.behind ∧
    (s.placeEvent k e).capture = s.capture ∧ (s.placeEvent k e).spill = s.spill ∧
    (s.placeEvent k e).time = s.time ∧ (s.placeEvent k e).headTime = s.headTime ∧ (s.placeEvent k e).mem = s.mem ∧
    (s.placeEvent k e).cells = s.cells ∧ (s.placeEvent k e).ports = s.ports ∧
    (s.placeEvent k e).uplink = s.uplink ∧ (s.placeEvent k e).mgmt = s.mgmt := by simp [State.placeEvent]

@[simp] theorem State.placeBoth_frame (s : State) (k : Option Head) (e e' : Event) :
    (s.placeBoth k e e').pending = s.pending ∧ (s.placeBoth k e e').resetCount = s.resetCount ∧
    (s.placeBoth k e e').service = s.service ∧ (s.placeBoth k e e').restartMark = s.restartMark ∧
    (s.placeBoth k e e').headFaults = s.headFaults ∧ (s.placeBoth k e e').partFault = s.partFault ∧
    (s.placeBoth k e e').measure = s.measure ∧ (s.placeBoth k e e').ctx = s.ctx ∧
    (s.placeBoth k e e').settings = s.settings ∧ (s.placeBoth k e e').lookup = s.lookup ∧
    (s.placeBoth k e e').waiting = s.waiting ∧ (s.placeBoth k e e').settle = s.settle ∧
    (s.placeBoth k e e').behind = s.behind ∧ (s.placeBoth k e e').capture = s.capture ∧
    (s.placeBoth k e e').spill = s.spill ∧ (s.placeBoth k e e').time = s.time ∧
    (s.placeBoth k e e').headTime = s.headTime ∧ (s.placeBoth k e e').mem = s.mem ∧
    (s.placeBoth k e e').cells = s.cells ∧ (s.placeBoth k e e').ports = s.ports ∧
    (s.placeBoth k e e').uplink = s.uplink ∧ (s.placeBoth k e e').mgmt = s.mgmt := by simp [State.placeBoth]

@[simp] theorem State.redecimate_frame (s : State) (f : Decimation → Decimation) (d : Bool) :
    (s.redecimate f d).pending = s.pending ∧ (s.redecimate f d).freeCount = s.freeCount ∧
    (s.redecimate f d).resetCount = s.resetCount ∧ (s.redecimate f d).service = s.service ∧
    (s.redecimate f d).restartMark = s.restartMark ∧ (s.redecimate f d).headFaults = s.headFaults ∧
    (s.redecimate f d).partFault = s.partFault ∧ (s.redecimate f d).measure = s.measure ∧
    (s.redecimate f d).ctx = s.ctx ∧ (s.redecimate f d).settings = s.settings ∧
    (s.redecimate f d).lookup = s.lookup ∧ (s.redecimate f d).waiting = s.waiting ∧
    (s.redecimate f d).settle = s.settle ∧ (s.redecimate f d).behind = s.behind ∧
    (s.redecimate f d).capture = s.capture ∧ (s.redecimate f d).spill = s.spill ∧
    (s.redecimate f d).time = s.time ∧ (s.redecimate f d).headTime = s.headTime ∧ (s.redecimate f d).mem = s.mem ∧
    (s.redecimate f d).cells = s.cells ∧ (s.redecimate f d).ports = s.ports ∧
    (s.redecimate f d).uplink = s.uplink ∧ (s.redecimate f d).mgmt = s.mgmt := by simp only [State.redecimate]; split <;> simp

@[simp] theorem State.afterRise_frame (s : State) :
    (s.afterRise).pending = s.pending ∧ (s.afterRise).freeCount = s.freeCount ∧
    (s.afterRise).resetCount = s.resetCount ∧ (s.afterRise).service = s.service ∧
    (s.afterRise).restartMark = s.restartMark ∧ (s.afterRise).headFaults = s.headFaults ∧
    (s.afterRise).partFault = s.partFault ∧ (s.afterRise).measure = s.measure ∧ (s.afterRise).ctx = s.ctx ∧
    (s.afterRise).settings = s.settings ∧ (s.afterRise).lookup = s.lookup ∧ (s.afterRise).waiting = s.waiting ∧
    (s.afterRise).settle = s.settle ∧ (s.afterRise).behind = s.behind ∧ (s.afterRise).capture = s.capture ∧
    (s.afterRise).spill = s.spill ∧ (s.afterRise).time = s.time ∧ (s.afterRise).headTime = s.headTime ∧
    (s.afterRise).mem = s.mem ∧ (s.afterRise).cells = s.cells ∧ (s.afterRise).ports = s.ports ∧
    (s.afterRise).uplink = s.uplink ∧ (s.afterRise).mgmt = s.mgmt := by
  unfold State.afterRise
  (repeat' split) <;> simp

@[simp] theorem State.afterFall_frame (s : State) :
    (s.afterFall).pending = s.pending ∧ (s.afterFall).freeCount = s.freeCount ∧
    (s.afterFall).resetCount = s.resetCount ∧ (s.afterFall).service = s.service ∧
    (s.afterFall).restartMark = s.restartMark ∧ (s.afterFall).headFaults = s.headFaults ∧
    (s.afterFall).partFault = s.partFault ∧ (s.afterFall).measure = s.measure ∧ (s.afterFall).ctx = s.ctx ∧
    (s.afterFall).settings = s.settings ∧ (s.afterFall).lookup = s.lookup ∧ (s.afterFall).waiting = s.waiting ∧
    (s.afterFall).settle = s.settle ∧ (s.afterFall).behind = s.behind ∧ (s.afterFall).capture = s.capture ∧
    (s.afterFall).spill = s.spill ∧ (s.afterFall).time = s.time ∧ (s.afterFall).headTime = s.headTime ∧
    (s.afterFall).mem = s.mem ∧ (s.afterFall).cells = s.cells ∧ (s.afterFall).ports = s.ports ∧
    (s.afterFall).uplink = s.uplink ∧ (s.afterFall).mgmt = s.mgmt := by
  unfold State.afterFall
  (repeat' split) <;> simp

@[simp] theorem State.enqueue_frame (s : State) (f : ReportFrame) :
    (s.enqueue f).pending = s.pending ∧ (s.enqueue f).freeCount = s.freeCount ∧
    (s.enqueue f).resetCount = s.resetCount ∧ (s.enqueue f).service = s.service ∧
    (s.enqueue f).restartMark = s.restartMark ∧ (s.enqueue f).headFaults = s.headFaults ∧
    (s.enqueue f).partFault = s.partFault ∧ (s.enqueue f).measure = s.measure ∧ (s.enqueue f).ctx = s.ctx ∧
    (s.enqueue f).settings = s.settings ∧ (s.enqueue f).lookup = s.lookup ∧ (s.enqueue f).waiting = s.waiting ∧
    (s.enqueue f).settle = s.settle ∧ (s.enqueue f).behind = s.behind ∧ (s.enqueue f).capture = s.capture ∧
    (s.enqueue f).spill = s.spill ∧ (s.enqueue f).time = s.time ∧ (s.enqueue f).headTime = s.headTime ∧
    (s.enqueue f).mem = s.mem ∧ (s.enqueue f).cells = s.cells ∧ (s.enqueue f).ports = s.ports ∧
    (s.enqueue f).mgmt = s.mgmt := by simp [State.enqueue]

@[simp] theorem State.reserve_frame (s : State) :
    (s.reserve).pending = s.pending ∧ (s.reserve).freeCount = s.freeCount ∧
    (s.reserve).resetCount = s.resetCount ∧ (s.reserve).service = s.service ∧
    (s.reserve).restartMark = s.restartMark ∧ (s.reserve).headFaults = s.headFaults ∧
    (s.reserve).partFault = s.partFault ∧ (s.reserve).measure = s.measure ∧ (s.reserve).ctx = s.ctx ∧
    (s.reserve).settings = s.settings ∧ (s.reserve).lookup = s.lookup ∧ (s.reserve).waiting = s.waiting ∧
    (s.reserve).settle = s.settle ∧ (s.reserve).behind = s.behind ∧ (s.reserve).capture = s.capture ∧
    (s.reserve).spill = s.spill ∧ (s.reserve).time = s.time ∧ (s.reserve).headTime = s.headTime ∧
    (s.reserve).mem = s.mem ∧ (s.reserve).cells = s.cells ∧ (s.reserve).ports = s.ports ∧
    (s.reserve).uplink = s.uplink ∧ (s.reserve).mgmt = s.mgmt := by simp [State.reserve]

@[simp] theorem State.release_frame (s : State) :
    (s.release).pending = s.pending ∧ (s.release).freeCount = s.freeCount ∧
    (s.release).resetCount = s.resetCount ∧ (s.release).service = s.service ∧
    (s.release).restartMark = s.restartMark ∧ (s.release).headFaults = s.headFaults ∧
    (s.release).partFault = s.partFault ∧ (s.release).measure = s.measure ∧ (s.release).ctx = s.ctx ∧
    (s.release).settings = s.settings ∧ (s.release).lookup = s.lookup ∧ (s.release).waiting = s.waiting ∧
    (s.release).settle = s.settle ∧ (s.release).behind = s.behind ∧ (s.release).capture = s.capture ∧
    (s.release).spill = s.spill ∧ (s.release).time = s.time ∧ (s.release).headTime = s.headTime ∧
    (s.release).mem = s.mem ∧ (s.release).cells = s.cells ∧ (s.release).ports = s.ports ∧
    (s.release).uplink = s.uplink ∧ (s.release).mgmt = s.mgmt := by simp [State.release]

@[simp] theorem State.enqueueReserved_frame (s : State) (f : ReportFrame) :
    (s.enqueueReserved f).pending = s.pending ∧ (s.enqueueReserved f).freeCount = s.freeCount ∧
    (s.enqueueReserved f).resetCount = s.resetCount ∧ (s.enqueueReserved f).service = s.service ∧
    (s.enqueueReserved f).restartMark = s.restartMark ∧ (s.enqueueReserved f).headFaults = s.headFaults ∧
    (s.enqueueReserved f).partFault = s.partFault ∧ (s.enqueueReserved f).measure = s.measure ∧
    (s.enqueueReserved f).ctx = s.ctx ∧ (s.enqueueReserved f).settings = s.settings ∧
    (s.enqueueReserved f).lookup = s.lookup ∧ (s.enqueueReserved f).waiting = s.waiting ∧
    (s.enqueueReserved f).settle = s.settle ∧ (s.enqueueReserved f).behind = s.behind ∧
    (s.enqueueReserved f).capture = s.capture ∧ (s.enqueueReserved f).spill = s.spill ∧
    (s.enqueueReserved f).time = s.time ∧ (s.enqueueReserved f).headTime = s.headTime ∧
    (s.enqueueReserved f).mem = s.mem ∧ (s.enqueueReserved f).cells = s.cells ∧
    (s.enqueueReserved f).ports = s.ports ∧ (s.enqueueReserved f).mgmt = s.mgmt := by simp [State.enqueueReserved]

@[simp] theorem State.giveAnswer_frame (s : State) (tag : Byte) (k : Nat) (st : Status) (d : List Byte) :
    (s.giveAnswer tag k st d).pending = s.pending ∧ (s.giveAnswer tag k st d).freeCount = s.freeCount ∧
    (s.giveAnswer tag k st d).resetCount = s.resetCount ∧ (s.giveAnswer tag k st d).service = s.service ∧
    (s.giveAnswer tag k st d).restartMark = s.restartMark ∧ (s.giveAnswer tag k st d).headFaults = s.headFaults ∧
    (s.giveAnswer tag k st d).partFault = s.partFault ∧ (s.giveAnswer tag k st d).measure = s.measure ∧
    (s.giveAnswer tag k st d).ctx = s.ctx ∧ (s.giveAnswer tag k st d).settings = s.settings ∧
    (s.giveAnswer tag k st d).lookup = s.lookup ∧ (s.giveAnswer tag k st d).waiting = s.waiting ∧
    (s.giveAnswer tag k st d).settle = s.settle ∧ (s.giveAnswer tag k st d).behind = s.behind ∧
    (s.giveAnswer tag k st d).capture = s.capture ∧ (s.giveAnswer tag k st d).spill = s.spill ∧
    (s.giveAnswer tag k st d).time = s.time ∧ (s.giveAnswer tag k st d).headTime = s.headTime ∧
    (s.giveAnswer tag k st d).mem = s.mem ∧ (s.giveAnswer tag k st d).cells = s.cells ∧
    (s.giveAnswer tag k st d).ports = s.ports := by simp only [State.giveAnswer]; split <;> simp

@[simp] theorem State.answerInHand_frame (s : State) (st : Status) (d : List Byte) :
    (s.answerInHand st d).pending = s.pending ∧ (s.answerInHand st d).freeCount = s.freeCount ∧
    (s.answerInHand st d).resetCount = s.resetCount ∧ (s.answerInHand st d).service = s.service ∧
    (s.answerInHand st d).restartMark = s.restartMark ∧ (s.answerInHand st d).headFaults = s.headFaults ∧
    (s.answerInHand st d).partFault = s.partFault ∧ (s.answerInHand st d).measure = s.measure ∧
    (s.answerInHand st d).ctx = s.ctx ∧ (s.answerInHand st d).settings = s.settings ∧
    (s.answerInHand st d).lookup = s.lookup ∧ (s.answerInHand st d).waiting = s.waiting ∧
    (s.answerInHand st d).settle = s.settle ∧ (s.answerInHand st d).behind = s.behind ∧
    (s.answerInHand st d).capture = s.capture ∧ (s.answerInHand st d).spill = s.spill ∧
    (s.answerInHand st d).time = s.time ∧ (s.answerInHand st d).headTime = s.headTime ∧
    (s.answerInHand st d).mem = s.mem ∧ (s.answerInHand st d).cells = s.cells ∧
    (s.answerInHand st d).ports = s.ports := by
  unfold State.answerInHand
  (repeat' split) <;> simp

@[simp] theorem State.reportSample_frame (s : State) (n : Head) (h : Handed) :
    (s.reportSample n h).pending = s.pending ∧ (s.reportSample n h).freeCount = s.freeCount ∧
    (s.reportSample n h).resetCount = s.resetCount ∧ (s.reportSample n h).service = s.service ∧
    (s.reportSample n h).restartMark = s.restartMark ∧ (s.reportSample n h).headFaults = s.headFaults ∧
    (s.reportSample n h).partFault = s.partFault ∧ (s.reportSample n h).measure = s.measure ∧
    (s.reportSample n h).ctx = s.ctx ∧ (s.reportSample n h).settings = s.settings ∧
    (s.reportSample n h).lookup = s.lookup ∧ (s.reportSample n h).waiting = s.waiting ∧
    (s.reportSample n h).settle = s.settle ∧ (s.reportSample n h).behind = s.behind ∧
    (s.reportSample n h).capture = s.capture ∧ (s.reportSample n h).spill = s.spill ∧
    (s.reportSample n h).time = s.time ∧ (s.reportSample n h).headTime = s.headTime ∧
    (s.reportSample n h).mem = s.mem ∧ (s.reportSample n h).cells = s.cells ∧
    (s.reportSample n h).ports = s.ports ∧ (s.reportSample n h).mgmt = s.mgmt := by simp only [State.reportSample]; (repeat' split) <;> simp

@[simp] theorem State.setFault_frame (s : State) (k : Option Head) (r : FaultRecord) :
    (s.setFault k r).pending = s.pending ∧ (s.setFault k r).freeCount = s.freeCount ∧
    (s.setFault k r).resetCount = s.resetCount ∧ (s.setFault k r).service = s.service ∧
    (s.setFault k r).restartMark = s.restartMark ∧ (s.setFault k r).measure = s.measure ∧
    (s.setFault k r).ctx = s.ctx ∧ (s.setFault k r).settings = s.settings ∧ (s.setFault k r).lookup = s.lookup ∧
    (s.setFault k r).waiting = s.waiting ∧ (s.setFault k r).settle = s.settle ∧
    (s.setFault k r).behind = s.behind ∧ (s.setFault k r).capture = s.capture ∧ (s.setFault k r).spill = s.spill ∧
    (s.setFault k r).time = s.time ∧ (s.setFault k r).headTime = s.headTime ∧ (s.setFault k r).mem = s.mem ∧
    (s.setFault k r).cells = s.cells ∧ (s.setFault k r).report = s.report ∧ (s.setFault k r).ports = s.ports ∧
    (s.setFault k r).uplink = s.uplink ∧ (s.setFault k r).mgmt = s.mgmt := by cases k <;> simp [State.setFault]

@[simp] theorem State.raise_frame (s : State) (k : Option Head) (kind : FaultKind) (d : Nat) :
    (s.raise k kind d).pending = s.pending ∧ (s.raise k kind d).freeCount = s.freeCount ∧
    (s.raise k kind d).resetCount = s.resetCount ∧ (s.raise k kind d).service = s.service ∧
    (s.raise k kind d).restartMark = s.restartMark ∧ (s.raise k kind d).measure = s.measure ∧
    (s.raise k kind d).ctx = s.ctx ∧ (s.raise k kind d).settings = s.settings ∧
    (s.raise k kind d).lookup = s.lookup ∧ (s.raise k kind d).waiting = s.waiting ∧
    (s.raise k kind d).settle = s.settle ∧ (s.raise k kind d).behind = s.behind ∧
    (s.raise k kind d).capture = s.capture ∧ (s.raise k kind d).spill = s.spill ∧
    (s.raise k kind d).time = s.time ∧ (s.raise k kind d).headTime = s.headTime ∧ (s.raise k kind d).mem = s.mem ∧
    (s.raise k kind d).cells = s.cells ∧ (s.raise k kind d).ports = s.ports ∧
    (s.raise k kind d).uplink = s.uplink ∧ (s.raise k kind d).mgmt = s.mgmt := by simp only [State.raise]; split <;> simp

@[simp] theorem State.raiseWith_frame (s : State) (k : Option Head) (kind : FaultKind) (d : Nat) (e : Event) :
    (s.raiseWith k kind d e).pending = s.pending ∧ (s.raiseWith k kind d e).resetCount = s.resetCount ∧
    (s.raiseWith k kind d e).service = s.service ∧ (s.raiseWith k kind d e).restartMark = s.restartMark ∧
    (s.raiseWith k kind d e).measure = s.measure ∧ (s.raiseWith k kind d e).ctx = s.ctx ∧
    (s.raiseWith k kind d e).settings = s.settings ∧ (s.raiseWith k kind d e).lookup = s.lookup ∧
    (s.raiseWith k kind d e).waiting = s.waiting ∧ (s.raiseWith k kind d e).settle = s.settle ∧
    (s.raiseWith k kind d e).behind = s.behind ∧ (s.raiseWith k kind d e).capture = s.capture ∧
    (s.raiseWith k kind d e).spill = s.spill ∧ (s.raiseWith k kind d e).time = s.time ∧
    (s.raiseWith k kind d e).headTime = s.headTime ∧ (s.raiseWith k kind d e).mem = s.mem ∧
    (s.raiseWith k kind d e).cells = s.cells ∧ (s.raiseWith k kind d e).ports = s.ports ∧
    (s.raiseWith k kind d e).uplink = s.uplink ∧ (s.raiseWith k kind d e).mgmt = s.mgmt := by simp only [State.raiseWith]; split <;> simp

@[simp] theorem State.changeState_frame (s : State) (n : Head) (c : Context) (new : CtxState) (cause : StateCause) :
    (s.changeState n c new cause).pending = s.pending ∧ (s.changeState n c new cause).freeCount = s.freeCount ∧
    (s.changeState n c new cause).resetCount = s.resetCount ∧ (s.changeState n c new cause).service = s.service ∧
    (s.changeState n c new cause).restartMark = s.restartMark ∧
    (s.changeState n c new cause).headFaults = s.headFaults ∧
    (s.changeState n c new cause).partFault = s.partFault ∧ (s.changeState n c new cause).measure = s.measure ∧
    (s.changeState n c new cause).settings = s.settings ∧ (s.changeState n c new cause).lookup = s.lookup ∧
    (s.changeState n c new cause).waiting = s.waiting ∧ (s.changeState n c new cause).settle = s.settle ∧
    (s.changeState n c new cause).behind = s.behind ∧ (s.changeState n c new cause).capture = s.capture ∧
    (s.changeState n c new cause).spill = s.spill ∧ (s.changeState n c new cause).time = s.time ∧
    (s.changeState n c new cause).headTime = s.headTime ∧ (s.changeState n c new cause).mem = s.mem ∧
    (s.changeState n c new cause).cells = s.cells ∧ (s.changeState n c new cause).ports = s.ports ∧
    (s.changeState n c new cause).uplink = s.uplink ∧ (s.changeState n c new cause).mgmt = s.mgmt := by simp [State.changeState]

@[simp] theorem State.changeStateWithFault_frame (s : State) (n : Head) (c : Context) (new : CtxState) (cause : StateCause) (k : FaultKind) (d : Nat) :
    (s.changeStateWithFault n c new cause k d).pending = s.pending ∧
    (s.changeStateWithFault n c new cause k d).resetCount = s.resetCount ∧
    (s.changeStateWithFault n c new cause k d).service = s.service ∧
    (s.changeStateWithFault n c new cause k d).restartMark = s.restartMark ∧
    (s.changeStateWithFault n c new cause k d).measure = s.measure ∧
    (s.changeStateWithFault n c new cause k d).settings = s.settings ∧
    (s.changeStateWithFault n c new cause k d).lookup = s.lookup ∧
    (s.changeStateWithFault n c new cause k d).waiting = s.waiting ∧
    (s.changeStateWithFault n c new cause k d).settle = s.settle ∧
    (s.changeStateWithFault n c new cause k d).behind = s.behind ∧
    (s.changeStateWithFault n c new cause k d).capture = s.capture ∧
    (s.changeStateWithFault n c new cause k d).spill = s.spill ∧
    (s.changeStateWithFault n c new cause k d).time = s.time ∧
    (s.changeStateWithFault n c new cause k d).headTime = s.headTime ∧
    (s.changeStateWithFault n c new cause k d).mem = s.mem ∧
    (s.changeStateWithFault n c new cause k d).cells = s.cells ∧
    (s.changeStateWithFault n c new cause k d).ports = s.ports ∧
    (s.changeStateWithFault n c new cause k d).uplink = s.uplink ∧
    (s.changeStateWithFault n c new cause k d).mgmt = s.mgmt := by simp [State.changeStateWithFault]

@[simp] theorem State.steerDrawn_frame (s : State) (n : Head) :
    (s.steerDrawn n).pending = s.pending ∧ (s.steerDrawn n).resetCount = s.resetCount ∧
    (s.steerDrawn n).service = s.service ∧ (s.steerDrawn n).restartMark = s.restartMark ∧
    (s.steerDrawn n).headFaults = s.headFaults ∧ (s.steerDrawn n).partFault = s.partFault ∧
    (s.steerDrawn n).measure = s.measure ∧ (s.steerDrawn n).ctx = s.ctx ∧ (s.steerDrawn n).settings = s.settings ∧
    (s.steerDrawn n).lookup = s.lookup ∧ (s.steerDrawn n).waiting = s.waiting ∧
    (s.steerDrawn n).settle = s.settle ∧ (s.steerDrawn n).behind = s.behind ∧
    (s.steerDrawn n).capture = s.capture ∧ (s.steerDrawn n).spill = s.spill ∧ (s.steerDrawn n).time = s.time ∧
    (s.steerDrawn n).headTime = s.headTime ∧ (s.steerDrawn n).mem = s.mem ∧ (s.steerDrawn n).cells = s.cells ∧
    (s.steerDrawn n).report = s.report ∧ (s.steerDrawn n).ports = s.ports ∧ (s.steerDrawn n).uplink = s.uplink ∧
    (s.steerDrawn n).mgmt = s.mgmt := by
  unfold State.steerDrawn
  (repeat' split) <;> simp

@[simp] theorem State.steer_frame (s : State) (n : Head) (m : SteerMode) (r : SteerReason) (a e : Int) :
    (s.steer n m r a e).pending = s.pending ∧ (s.steer n m r a e).resetCount = s.resetCount ∧
    (s.steer n m r a e).service = s.service ∧ (s.steer n m r a e).restartMark = s.restartMark ∧
    (s.steer n m r a e).headFaults = s.headFaults ∧ (s.steer n m r a e).partFault = s.partFault ∧
    (s.steer n m r a e).measure = s.measure ∧ (s.steer n m r a e).ctx = s.ctx ∧
    (s.steer n m r a e).settings = s.settings ∧ (s.steer n m r a e).lookup = s.lookup ∧
    (s.steer n m r a e).waiting = s.waiting ∧ (s.steer n m r a e).settle = s.settle ∧
    (s.steer n m r a e).behind = s.behind ∧ (s.steer n m r a e).capture = s.capture ∧
    (s.steer n m r a e).spill = s.spill ∧ (s.steer n m r a e).time = s.time ∧
    (s.steer n m r a e).headTime = s.headTime ∧ (s.steer n m r a e).mem = s.mem ∧
    (s.steer n m r a e).cells = s.cells ∧ (s.steer n m r a e).report = s.report ∧
    (s.steer n m r a e).uplink = s.uplink ∧ (s.steer n m r a e).mgmt = s.mgmt := by simp only [State.steer]; split <;> simp

@[simp] theorem State.steerSearch_frame (s : State) (n : Head) (q : SearchRecord) :
    (s.steerSearch n q).pending = s.pending ∧ (s.steerSearch n q).resetCount = s.resetCount ∧
    (s.steerSearch n q).service = s.service ∧ (s.steerSearch n q).restartMark = s.restartMark ∧
    (s.steerSearch n q).headFaults = s.headFaults ∧ (s.steerSearch n q).partFault = s.partFault ∧
    (s.steerSearch n q).measure = s.measure ∧ (s.steerSearch n q).ctx = s.ctx ∧
    (s.steerSearch n q).settings = s.settings ∧ (s.steerSearch n q).lookup = s.lookup ∧
    (s.steerSearch n q).waiting = s.waiting ∧ (s.steerSearch n q).settle = s.settle ∧
    (s.steerSearch n q).behind = s.behind ∧ (s.steerSearch n q).capture = s.capture ∧
    (s.steerSearch n q).spill = s.spill ∧ (s.steerSearch n q).time = s.time ∧
    (s.steerSearch n q).headTime = s.headTime ∧ (s.steerSearch n q).mem = s.mem ∧
    (s.steerSearch n q).cells = s.cells ∧ (s.steerSearch n q).report = s.report ∧
    (s.steerSearch n q).uplink = s.uplink ∧ (s.steerSearch n q).mgmt = s.mgmt := by simp [State.steerSearch]

@[simp] theorem State.startSearch_frame (s : State) (n : Head) (c : Context) (a e : Int) (b : Bool) (cause : StateCause) :
    (s.startSearch n c a e b cause).pending = s.pending ∧
    (s.startSearch n c a e b cause).resetCount = s.resetCount ∧
    (s.startSearch n c a e b cause).service = s.service ∧
    (s.startSearch n c a e b cause).restartMark = s.restartMark ∧
    (s.startSearch n c a e b cause).headFaults = s.headFaults ∧
    (s.startSearch n c a e b cause).partFault = s.partFault ∧
    (s.startSearch n c a e b cause).measure = s.measure ∧ (s.startSearch n c a e b cause).settings = s.settings ∧
    (s.startSearch n c a e b cause).lookup = s.lookup ∧ (s.startSearch n c a e b cause).waiting = s.waiting ∧
    (s.startSearch n c a e b cause).settle = s.settle ∧ (s.startSearch n c a e b cause).behind = s.behind ∧
    (s.startSearch n c a e b cause).capture = s.capture ∧ (s.startSearch n c a e b cause).spill = s.spill ∧
    (s.startSearch n c a e b cause).time = s.time ∧ (s.startSearch n c a e b cause).headTime = s.headTime ∧
    (s.startSearch n c a e b cause).mem = s.mem ∧ (s.startSearch n c a e b cause).cells = s.cells ∧
    (s.startSearch n c a e b cause).uplink = s.uplink ∧ (s.startSearch n c a e b cause).mgmt = s.mgmt := by simp [State.startSearch]

@[simp] theorem State.parkHead_frame (s : State) (n : Head) :
    (s.parkHead n).pending = s.pending ∧ (s.parkHead n).resetCount = s.resetCount ∧
    (s.parkHead n).service = s.service ∧ (s.parkHead n).restartMark = s.restartMark ∧
    (s.parkHead n).headFaults = s.headFaults ∧ (s.parkHead n).partFault = s.partFault ∧
    (s.parkHead n).measure = s.measure ∧ (s.parkHead n).settings = s.settings ∧ (s.parkHead n).lookup = s.lookup ∧
    (s.parkHead n).waiting = s.waiting ∧ (s.parkHead n).settle = s.settle ∧ (s.parkHead n).behind = s.behind ∧
    (s.parkHead n).capture = s.capture ∧ (s.parkHead n).spill = s.spill ∧ (s.parkHead n).time = s.time ∧
    (s.parkHead n).headTime = s.headTime ∧ (s.parkHead n).mem = s.mem ∧ (s.parkHead n).cells = s.cells ∧
    (s.parkHead n).uplink = s.uplink ∧ (s.parkHead n).mgmt = s.mgmt := by simp only [State.parkHead]; split <;> simp

@[simp] theorem State.wakeHead_frame (s : State) (n : Head) :
    (s.wakeHead n).pending = s.pending ∧ (s.wakeHead n).freeCount = s.freeCount ∧
    (s.wakeHead n).resetCount = s.resetCount ∧ (s.wakeHead n).service = s.service ∧
    (s.wakeHead n).restartMark = s.restartMark ∧ (s.wakeHead n).headFaults = s.headFaults ∧
    (s.wakeHead n).partFault = s.partFault ∧ (s.wakeHead n).measure = s.measure ∧
    (s.wakeHead n).settings = s.settings ∧ (s.wakeHead n).lookup = s.lookup ∧ (s.wakeHead n).waiting = s.waiting ∧
    (s.wakeHead n).settle = s.settle ∧ (s.wakeHead n).behind = s.behind ∧ (s.wakeHead n).capture = s.capture ∧
    (s.wakeHead n).spill = s.spill ∧ (s.wakeHead n).time = s.time ∧ (s.wakeHead n).headTime = s.headTime ∧
    (s.wakeHead n).mem = s.mem ∧ (s.wakeHead n).cells = s.cells ∧ (s.wakeHead n).ports = s.ports ∧
    (s.wakeHead n).uplink = s.uplink ∧ (s.wakeHead n).mgmt = s.mgmt := by simp only [State.wakeHead]; split <;> simp

@[simp] theorem State.transition_frame (s : State) (n : Head) (c : Context) (m : MeasuredSample) (ret : Bool) :
    (s.transition n c m ret).pending = s.pending ∧ (s.transition n c m ret).resetCount = s.resetCount ∧
    (s.transition n c m ret).service = s.service ∧ (s.transition n c m ret).restartMark = s.restartMark ∧
    (s.transition n c m ret).measure = s.measure ∧ (s.transition n c m ret).settings = s.settings ∧
    (s.transition n c m ret).lookup = s.lookup ∧ (s.transition n c m ret).waiting = s.waiting ∧
    (s.transition n c m ret).settle = s.settle ∧ (s.transition n c m ret).behind = s.behind ∧
    (s.transition n c m ret).capture = s.capture ∧ (s.transition n c m ret).spill = s.spill ∧
    (s.transition n c m ret).time = s.time ∧ (s.transition n c m ret).headTime = s.headTime ∧
    (s.transition n c m ret).mem = s.mem ∧ (s.transition n c m ret).cells = s.cells ∧
    (s.transition n c m ret).uplink = s.uplink ∧ (s.transition n c m ret).mgmt = s.mgmt := by
  simp only [State.transition]
  split <;> (repeat' split) <;> simp

@[simp] theorem State.coastExpiry_frame (s : State) (n : Head) (c : Context) (i : Nat) :
    (s.coastExpiry n c i).pending = s.pending ∧ (s.coastExpiry n c i).resetCount = s.resetCount ∧
    (s.coastExpiry n c i).service = s.service ∧ (s.coastExpiry n c i).restartMark = s.restartMark ∧
    (s.coastExpiry n c i).headFaults = s.headFaults ∧ (s.coastExpiry n c i).partFault = s.partFault ∧
    (s.coastExpiry n c i).measure = s.measure ∧ (s.coastExpiry n c i).settings = s.settings ∧
    (s.coastExpiry n c i).lookup = s.lookup ∧ (s.coastExpiry n c i).waiting = s.waiting ∧
    (s.coastExpiry n c i).settle = s.settle ∧ (s.coastExpiry n c i).behind = s.behind ∧
    (s.coastExpiry n c i).capture = s.capture ∧ (s.coastExpiry n c i).spill = s.spill ∧
    (s.coastExpiry n c i).time = s.time ∧ (s.coastExpiry n c i).headTime = s.headTime ∧
    (s.coastExpiry n c i).mem = s.mem ∧ (s.coastExpiry n c i).cells = s.cells ∧
    (s.coastExpiry n c i).uplink = s.uplink ∧ (s.coastExpiry n c i).mgmt = s.mgmt := by
  unfold State.coastExpiry
  (repeat' split) <;> simp

@[simp] theorem State.searchExpiry_frame (s : State) (n : Head) (c : Context) (i : Nat) :
    (s.searchExpiry n c i).pending = s.pending ∧ (s.searchExpiry n c i).resetCount = s.resetCount ∧
    (s.searchExpiry n c i).service = s.service ∧ (s.searchExpiry n c i).restartMark = s.restartMark ∧
    (s.searchExpiry n c i).measure = s.measure ∧ (s.searchExpiry n c i).settings = s.settings ∧
    (s.searchExpiry n c i).lookup = s.lookup ∧ (s.searchExpiry n c i).waiting = s.waiting ∧
    (s.searchExpiry n c i).settle = s.settle ∧ (s.searchExpiry n c i).behind = s.behind ∧
    (s.searchExpiry n c i).capture = s.capture ∧ (s.searchExpiry n c i).spill = s.spill ∧
    (s.searchExpiry n c i).time = s.time ∧ (s.searchExpiry n c i).headTime = s.headTime ∧
    (s.searchExpiry n c i).mem = s.mem ∧ (s.searchExpiry n c i).cells = s.cells ∧
    (s.searchExpiry n c i).uplink = s.uplink ∧ (s.searchExpiry n c i).mgmt = s.mgmt := by
  unfold State.searchExpiry
  (repeat' split) <;> simp

@[simp] theorem State.settleExpiryWork_frame (s : State) (n : Head) (c : Context) (i : Nat) :
    (s.settleExpiryWork n c i).pending = s.pending ∧ (s.settleExpiryWork n c i).resetCount = s.resetCount ∧
    (s.settleExpiryWork n c i).service = s.service ∧ (s.settleExpiryWork n c i).restartMark = s.restartMark ∧
    (s.settleExpiryWork n c i).settings = s.settings ∧ (s.settleExpiryWork n c i).lookup = s.lookup ∧
    (s.settleExpiryWork n c i).waiting = s.waiting ∧ (s.settleExpiryWork n c i).settle = s.settle ∧
    (s.settleExpiryWork n c i).behind = s.behind ∧ (s.settleExpiryWork n c i).capture = s.capture ∧
    (s.settleExpiryWork n c i).spill = s.spill ∧ (s.settleExpiryWork n c i).time = s.time ∧
    (s.settleExpiryWork n c i).headTime = s.headTime ∧ (s.settleExpiryWork n c i).mem = s.mem ∧
    (s.settleExpiryWork n c i).cells = s.cells ∧ (s.settleExpiryWork n c i).uplink = s.uplink ∧
    (s.settleExpiryWork n c i).mgmt = s.mgmt := by simp only [State.settleExpiryWork]; (repeat' split) <;> simp

@[simp] theorem State.trackExpiry_frame (s : State) (n : Head) (i : Nat) :
    (s.trackExpiry n i).pending = s.pending ∧ (s.trackExpiry n i).resetCount = s.resetCount ∧
    (s.trackExpiry n i).service = s.service ∧ (s.trackExpiry n i).restartMark = s.restartMark ∧
    (s.trackExpiry n i).settings = s.settings ∧ (s.trackExpiry n i).lookup = s.lookup ∧
    (s.trackExpiry n i).waiting = s.waiting ∧ (s.trackExpiry n i).settle = s.settle ∧
    (s.trackExpiry n i).behind = s.behind ∧ (s.trackExpiry n i).capture = s.capture ∧
    (s.trackExpiry n i).spill = s.spill ∧ (s.trackExpiry n i).time = s.time ∧
    (s.trackExpiry n i).headTime = s.headTime ∧ (s.trackExpiry n i).mem = s.mem ∧
    (s.trackExpiry n i).cells = s.cells ∧ (s.trackExpiry n i).uplink = s.uplink ∧
    (s.trackExpiry n i).mgmt = s.mgmt := by simp only [State.trackExpiry]; (repeat' split) <;> simp

@[simp] theorem State.setTime_frame (s : State) (t : TimeBase) :
    (s.setTime t).pending = s.pending ∧ (s.setTime t).freeCount = s.freeCount ∧
    (s.setTime t).resetCount = s.resetCount ∧ (s.setTime t).service = s.service ∧
    (s.setTime t).restartMark = s.restartMark ∧ (s.setTime t).headFaults = s.headFaults ∧
    (s.setTime t).partFault = s.partFault ∧ (s.setTime t).measure = s.measure ∧ (s.setTime t).ctx = s.ctx ∧
    (s.setTime t).settings = s.settings ∧ (s.setTime t).lookup = s.lookup ∧ (s.setTime t).waiting = s.waiting ∧
    (s.setTime t).settle = s.settle ∧ (s.setTime t).behind = s.behind ∧ (s.setTime t).capture = s.capture ∧
    (s.setTime t).spill = s.spill ∧ (s.setTime t).headTime = s.headTime ∧ (s.setTime t).mem = s.mem ∧
    (s.setTime t).cells = s.cells ∧ (s.setTime t).ports = s.ports ∧ (s.setTime t).uplink = s.uplink ∧
    (s.setTime t).mgmt = s.mgmt := by simp only [State.setTime]; split <;> simp

@[simp] theorem State.loseReference_frame (s : State) :
    (s.loseReference).pending = s.pending ∧ (s.loseReference).resetCount = s.resetCount ∧
    (s.loseReference).service = s.service ∧ (s.loseReference).restartMark = s.restartMark ∧
    (s.loseReference).measure = s.measure ∧ (s.loseReference).ctx = s.ctx ∧
    (s.loseReference).settings = s.settings ∧ (s.loseReference).lookup = s.lookup ∧
    (s.loseReference).waiting = s.waiting ∧ (s.loseReference).settle = s.settle ∧
    (s.loseReference).behind = s.behind ∧ (s.loseReference).capture = s.capture ∧
    (s.loseReference).spill = s.spill ∧ (s.loseReference).headTime = s.headTime ∧ (s.loseReference).mem = s.mem ∧
    (s.loseReference).cells = s.cells ∧ (s.loseReference).ports = s.ports ∧ (s.loseReference).uplink = s.uplink ∧
    (s.loseReference).mgmt = s.mgmt := by simp only [State.loseReference]; split <;> simp

@[simp] theorem State.referenceEdge_frame (s : State) :
    (s.referenceEdge).pending = s.pending ∧ (s.referenceEdge).resetCount = s.resetCount ∧
    (s.referenceEdge).service = s.service ∧ (s.referenceEdge).restartMark = s.restartMark ∧
    (s.referenceEdge).measure = s.measure ∧ (s.referenceEdge).ctx = s.ctx ∧
    (s.referenceEdge).settings = s.settings ∧ (s.referenceEdge).lookup = s.lookup ∧
    (s.referenceEdge).waiting = s.waiting ∧ (s.referenceEdge).settle = s.settle ∧
    (s.referenceEdge).behind = s.behind ∧ (s.referenceEdge).capture = s.capture ∧
    (s.referenceEdge).spill = s.spill ∧ (s.referenceEdge).headTime = s.headTime ∧ (s.referenceEdge).mem = s.mem ∧
    (s.referenceEdge).cells = s.cells ∧ (s.referenceEdge).ports = s.ports ∧ (s.referenceEdge).uplink = s.uplink ∧
    (s.referenceEdge).mgmt = s.mgmt := by simp only [State.referenceEdge]; (repeat' split) <;> simp

@[simp] theorem State.beginEpoch_frame (s : State) :
    (s.beginEpoch).pending = s.pending ∧ (s.beginEpoch).freeCount = s.freeCount ∧
    (s.beginEpoch).resetCount = s.resetCount ∧ (s.beginEpoch).service = s.service ∧
    (s.beginEpoch).restartMark = s.restartMark ∧ (s.beginEpoch).headFaults = s.headFaults ∧
    (s.beginEpoch).partFault = s.partFault ∧ (s.beginEpoch).measure = s.measure ∧ (s.beginEpoch).ctx = s.ctx ∧
    (s.beginEpoch).settings = s.settings ∧ (s.beginEpoch).lookup = s.lookup ∧ (s.beginEpoch).waiting = s.waiting ∧
    (s.beginEpoch).settle = s.settle ∧ (s.beginEpoch).behind = s.behind ∧ (s.beginEpoch).capture = s.capture ∧
    (s.beginEpoch).spill = s.spill ∧ (s.beginEpoch).mem = s.mem ∧ (s.beginEpoch).cells = s.cells ∧
    (s.beginEpoch).report = s.report ∧ (s.beginEpoch).ports = s.ports ∧ (s.beginEpoch).uplink = s.uplink ∧
    (s.beginEpoch).mgmt = s.mgmt := by simp [State.beginEpoch]

@[simp] theorem State.expireTrigger_frame (s : State) (n : Head) (h : HeadTime) :
    (s.expireTrigger n h).pending = s.pending ∧ (s.expireTrigger n h).freeCount = s.freeCount ∧
    (s.expireTrigger n h).resetCount = s.resetCount ∧ (s.expireTrigger n h).service = s.service ∧
    (s.expireTrigger n h).restartMark = s.restartMark ∧ (s.expireTrigger n h).headFaults = s.headFaults ∧
    (s.expireTrigger n h).partFault = s.partFault ∧ (s.expireTrigger n h).measure = s.measure ∧
    (s.expireTrigger n h).ctx = s.ctx ∧ (s.expireTrigger n h).settings = s.settings ∧
    (s.expireTrigger n h).lookup = s.lookup ∧ (s.expireTrigger n h).waiting = s.waiting ∧
    (s.expireTrigger n h).settle = s.settle ∧ (s.expireTrigger n h).behind = s.behind ∧
    (s.expireTrigger n h).capture = s.capture ∧ (s.expireTrigger n h).spill = s.spill ∧
    (s.expireTrigger n h).time = s.time ∧ (s.expireTrigger n h).headTime = s.headTime ∧
    (s.expireTrigger n h).mem = s.mem ∧ (s.expireTrigger n h).cells = s.cells ∧
    (s.expireTrigger n h).ports = s.ports ∧ (s.expireTrigger n h).uplink = s.uplink ∧
    (s.expireTrigger n h).mgmt = s.mgmt := by
  unfold State.expireTrigger
  (repeat' split) <;> simp

@[simp] theorem State.takeExpiry_frame (s : State) (n : Head) (e : DueExpiry) :
    (s.takeExpiry n e).pending = s.pending ∧ (s.takeExpiry n e).resetCount = s.resetCount ∧
    (s.takeExpiry n e).service = s.service ∧ (s.takeExpiry n e).restartMark = s.restartMark ∧
    (s.takeExpiry n e).settings = s.settings ∧ (s.takeExpiry n e).lookup = s.lookup ∧
    (s.takeExpiry n e).waiting = s.waiting ∧ (s.takeExpiry n e).settle = s.settle ∧
    (s.takeExpiry n e).behind = s.behind ∧ (s.takeExpiry n e).capture = s.capture ∧
    (s.takeExpiry n e).spill = s.spill ∧ (s.takeExpiry n e).time = s.time ∧ (s.takeExpiry n e).mem = s.mem ∧
    (s.takeExpiry n e).cells = s.cells ∧ (s.takeExpiry n e).uplink = s.uplink ∧ (s.takeExpiry n e).mgmt = s.mgmt := by simp [State.takeExpiry]

@[simp] theorem State.expireIf_frame (s : State) (n : Head) (p : Bool) :
    (s.expireIf n p).pending = s.pending ∧ (s.expireIf n p).resetCount = s.resetCount ∧
    (s.expireIf n p).service = s.service ∧ (s.expireIf n p).restartMark = s.restartMark ∧
    (s.expireIf n p).settings = s.settings ∧ (s.expireIf n p).lookup = s.lookup ∧
    (s.expireIf n p).waiting = s.waiting ∧ (s.expireIf n p).settle = s.settle ∧
    (s.expireIf n p).behind = s.behind ∧ (s.expireIf n p).capture = s.capture ∧ (s.expireIf n p).spill = s.spill ∧
    (s.expireIf n p).time = s.time ∧ (s.expireIf n p).mem = s.mem ∧ (s.expireIf n p).cells = s.cells ∧
    (s.expireIf n p).uplink = s.uplink ∧ (s.expireIf n p).mgmt = s.mgmt := by
  unfold State.expireIf
  (repeat' split) <;> simp

@[simp] theorem State.takeEdge_frame (s : State) (n : Head) :
    (s.takeEdge n).pending = s.pending ∧ (s.takeEdge n).freeCount = s.freeCount ∧
    (s.takeEdge n).resetCount = s.resetCount ∧ (s.takeEdge n).service = s.service ∧
    (s.takeEdge n).restartMark = s.restartMark ∧ (s.takeEdge n).measure = s.measure ∧ (s.takeEdge n).ctx = s.ctx ∧
    (s.takeEdge n).settings = s.settings ∧ (s.takeEdge n).lookup = s.lookup ∧ (s.takeEdge n).waiting = s.waiting ∧
    (s.takeEdge n).settle = s.settle ∧ (s.takeEdge n).behind = s.behind ∧ (s.takeEdge n).capture = s.capture ∧
    (s.takeEdge n).spill = s.spill ∧ (s.takeEdge n).time = s.time ∧ (s.takeEdge n).mem = s.mem ∧
    (s.takeEdge n).cells = s.cells ∧ (s.takeEdge n).ports = s.ports ∧ (s.takeEdge n).uplink = s.uplink ∧
    (s.takeEdge n).mgmt = s.mgmt := by simp only [State.takeEdge]; split <;> simp

@[simp] theorem State.idleTrigger_frame (s : State) (n : Head) :
    (s.idleTrigger n).pending = s.pending ∧ (s.idleTrigger n).freeCount = s.freeCount ∧
    (s.idleTrigger n).resetCount = s.resetCount ∧ (s.idleTrigger n).service = s.service ∧
    (s.idleTrigger n).restartMark = s.restartMark ∧ (s.idleTrigger n).headFaults = s.headFaults ∧
    (s.idleTrigger n).partFault = s.partFault ∧ (s.idleTrigger n).measure = s.measure ∧
    (s.idleTrigger n).ctx = s.ctx ∧ (s.idleTrigger n).settings = s.settings ∧
    (s.idleTrigger n).lookup = s.lookup ∧ (s.idleTrigger n).waiting = s.waiting ∧
    (s.idleTrigger n).settle = s.settle ∧ (s.idleTrigger n).behind = s.behind ∧
    (s.idleTrigger n).capture = s.capture ∧ (s.idleTrigger n).spill = s.spill ∧ (s.idleTrigger n).time = s.time ∧
    (s.idleTrigger n).mem = s.mem ∧ (s.idleTrigger n).cells = s.cells ∧ (s.idleTrigger n).report = s.report ∧
    (s.idleTrigger n).ports = s.ports ∧ (s.idleTrigger n).uplink = s.uplink ∧ (s.idleTrigger n).mgmt = s.mgmt := by simp [State.idleTrigger]

@[simp] theorem State.writeBytes_frame (s : State) (a : Nat) (bs : List Byte) :
    (s.writeBytes a bs).pending = s.pending ∧ (s.writeBytes a bs).freeCount = s.freeCount ∧
    (s.writeBytes a bs).resetCount = s.resetCount ∧ (s.writeBytes a bs).service = s.service ∧
    (s.writeBytes a bs).restartMark = s.restartMark ∧ (s.writeBytes a bs).headFaults = s.headFaults ∧
    (s.writeBytes a bs).partFault = s.partFault ∧ (s.writeBytes a bs).measure = s.measure ∧
    (s.writeBytes a bs).ctx = s.ctx ∧ (s.writeBytes a bs).settings = s.settings ∧
    (s.writeBytes a bs).lookup = s.lookup ∧ (s.writeBytes a bs).waiting = s.waiting ∧
    (s.writeBytes a bs).settle = s.settle ∧ (s.writeBytes a bs).behind = s.behind ∧
    (s.writeBytes a bs).capture = s.capture ∧ (s.writeBytes a bs).spill = s.spill ∧
    (s.writeBytes a bs).time = s.time ∧ (s.writeBytes a bs).headTime = s.headTime ∧
    (s.writeBytes a bs).mem = s.mem ∧ (s.writeBytes a bs).report = s.report ∧
    (s.writeBytes a bs).ports = s.ports ∧ (s.writeBytes a bs).uplink = s.uplink ∧
    (s.writeBytes a bs).mgmt = s.mgmt := by simp [State.writeBytes]

@[simp] theorem State.writeSlot_frame (s : State) (a : Nat) (e c : Bool) (h k : Nat) :
    (s.writeSlot a e c h k).pending = s.pending ∧ (s.writeSlot a e c h k).freeCount = s.freeCount ∧
    (s.writeSlot a e c h k).resetCount = s.resetCount ∧ (s.writeSlot a e c h k).service = s.service ∧
    (s.writeSlot a e c h k).restartMark = s.restartMark ∧ (s.writeSlot a e c h k).headFaults = s.headFaults ∧
    (s.writeSlot a e c h k).partFault = s.partFault ∧ (s.writeSlot a e c h k).measure = s.measure ∧
    (s.writeSlot a e c h k).ctx = s.ctx ∧ (s.writeSlot a e c h k).settings = s.settings ∧
    (s.writeSlot a e c h k).lookup = s.lookup ∧ (s.writeSlot a e c h k).waiting = s.waiting ∧
    (s.writeSlot a e c h k).settle = s.settle ∧ (s.writeSlot a e c h k).behind = s.behind ∧
    (s.writeSlot a e c h k).capture = s.capture ∧ (s.writeSlot a e c h k).spill = s.spill ∧
    (s.writeSlot a e c h k).time = s.time ∧ (s.writeSlot a e c h k).headTime = s.headTime ∧
    (s.writeSlot a e c h k).mem = s.mem ∧ (s.writeSlot a e c h k).report = s.report ∧
    (s.writeSlot a e c h k).ports = s.ports ∧ (s.writeSlot a e c h k).uplink = s.uplink ∧
    (s.writeSlot a e c h k).mgmt = s.mgmt := by simp [State.writeSlot]

@[simp] theorem State.removeRequest_frame (s : State) (a : Access) :
    (s.removeRequest a).pending = s.pending ∧ (s.removeRequest a).freeCount = s.freeCount ∧
    (s.removeRequest a).resetCount = s.resetCount ∧ (s.removeRequest a).service = s.service ∧
    (s.removeRequest a).restartMark = s.restartMark ∧ (s.removeRequest a).headFaults = s.headFaults ∧
    (s.removeRequest a).partFault = s.partFault ∧ (s.removeRequest a).measure = s.measure ∧
    (s.removeRequest a).ctx = s.ctx ∧ (s.removeRequest a).settings = s.settings ∧
    (s.removeRequest a).lookup = s.lookup ∧ (s.removeRequest a).waiting = s.waiting ∧
    (s.removeRequest a).settle = s.settle ∧ (s.removeRequest a).behind = s.behind ∧
    (s.removeRequest a).spill = s.spill ∧ (s.removeRequest a).time = s.time ∧
    (s.removeRequest a).headTime = s.headTime ∧ (s.removeRequest a).cells = s.cells ∧
    (s.removeRequest a).report = s.report ∧ (s.removeRequest a).ports = s.ports ∧
    (s.removeRequest a).uplink = s.uplink ∧ (s.removeRequest a).mgmt = s.mgmt := by cases a <;> simp [State.removeRequest]

@[simp] theorem State.grant_frame (s : State) (a : Access) :
    (s.grant a).pending = s.pending ∧ (s.grant a).freeCount = s.freeCount ∧
    (s.grant a).resetCount = s.resetCount ∧ (s.grant a).service = s.service ∧
    (s.grant a).restartMark = s.restartMark ∧ (s.grant a).headFaults = s.headFaults ∧
    (s.grant a).partFault = s.partFault ∧ (s.grant a).measure = s.measure ∧ (s.grant a).ctx = s.ctx ∧
    (s.grant a).settings = s.settings ∧ (s.grant a).lookup = s.lookup ∧ (s.grant a).waiting = s.waiting ∧
    (s.grant a).settle = s.settle ∧ (s.grant a).behind = s.behind ∧ (s.grant a).spill = s.spill ∧
    (s.grant a).time = s.time ∧ (s.grant a).headTime = s.headTime ∧ (s.grant a).cells = s.cells ∧
    (s.grant a).report = s.report ∧ (s.grant a).ports = s.ports ∧ (s.grant a).uplink = s.uplink ∧
    (s.grant a).mgmt = s.mgmt := by simp [State.grant]

@[simp] theorem State.endAccess_frame (s : State) :
    (s.endAccess).pending = s.pending ∧ (s.endAccess).freeCount = s.freeCount ∧
    (s.endAccess).resetCount = s.resetCount ∧ (s.endAccess).service = s.service ∧
    (s.endAccess).restartMark = s.restartMark ∧ (s.endAccess).headFaults = s.headFaults ∧
    (s.endAccess).partFault = s.partFault ∧ (s.endAccess).measure = s.measure ∧ (s.endAccess).ctx = s.ctx ∧
    (s.endAccess).settings = s.settings ∧ (s.endAccess).lookup = s.lookup ∧ (s.endAccess).waiting = s.waiting ∧
    (s.endAccess).settle = s.settle ∧ (s.endAccess).behind = s.behind ∧ (s.endAccess).capture = s.capture ∧
    (s.endAccess).spill = s.spill ∧ (s.endAccess).time = s.time ∧ (s.endAccess).headTime = s.headTime ∧
    (s.endAccess).cells = s.cells ∧ (s.endAccess).report = s.report ∧ (s.endAccess).ports = s.ports ∧
    (s.endAccess).uplink = s.uplink ∧ (s.endAccess).mgmt = s.mgmt := by simp [State.endAccess]

@[simp] theorem State.requestBucket_frame (s : State) (c : Charge) (b : Nat) :
    (s.requestBucket c b).pending = s.pending ∧ (s.requestBucket c b).freeCount = s.freeCount ∧
    (s.requestBucket c b).resetCount = s.resetCount ∧ (s.requestBucket c b).service = s.service ∧
    (s.requestBucket c b).restartMark = s.restartMark ∧ (s.requestBucket c b).headFaults = s.headFaults ∧
    (s.requestBucket c b).partFault = s.partFault ∧ (s.requestBucket c b).measure = s.measure ∧
    (s.requestBucket c b).ctx = s.ctx ∧ (s.requestBucket c b).settings = s.settings ∧
    (s.requestBucket c b).lookup = s.lookup ∧ (s.requestBucket c b).waiting = s.waiting ∧
    (s.requestBucket c b).settle = s.settle ∧ (s.requestBucket c b).behind = s.behind ∧
    (s.requestBucket c b).capture = s.capture ∧ (s.requestBucket c b).spill = s.spill ∧
    (s.requestBucket c b).time = s.time ∧ (s.requestBucket c b).headTime = s.headTime ∧
    (s.requestBucket c b).cells = s.cells ∧ (s.requestBucket c b).report = s.report ∧
    (s.requestBucket c b).ports = s.ports ∧ (s.requestBucket c b).uplink = s.uplink ∧
    (s.requestBucket c b).mgmt = s.mgmt := by simp [State.requestBucket]

@[simp] theorem State.requestSpill_frame (s : State) (r : SpillRequest) :
    (s.requestSpill r).pending = s.pending ∧ (s.requestSpill r).freeCount = s.freeCount ∧
    (s.requestSpill r).resetCount = s.resetCount ∧ (s.requestSpill r).service = s.service ∧
    (s.requestSpill r).restartMark = s.restartMark ∧ (s.requestSpill r).headFaults = s.headFaults ∧
    (s.requestSpill r).partFault = s.partFault ∧ (s.requestSpill r).measure = s.measure ∧
    (s.requestSpill r).ctx = s.ctx ∧ (s.requestSpill r).settings = s.settings ∧
    (s.requestSpill r).lookup = s.lookup ∧ (s.requestSpill r).waiting = s.waiting ∧
    (s.requestSpill r).settle = s.settle ∧ (s.requestSpill r).behind = s.behind ∧
    (s.requestSpill r).capture = s.capture ∧ (s.requestSpill r).spill = s.spill ∧
    (s.requestSpill r).time = s.time ∧ (s.requestSpill r).headTime = s.headTime ∧
    (s.requestSpill r).cells = s.cells ∧ (s.requestSpill r).report = s.report ∧
    (s.requestSpill r).ports = s.ports ∧ (s.requestSpill r).uplink = s.uplink ∧ (s.requestSpill r).mgmt = s.mgmt := by simp [State.requestSpill]

@[simp] theorem State.requestMgmt_frame (s : State) (r : MgmtRequest) :
    (s.requestMgmt r).pending = s.pending ∧ (s.requestMgmt r).freeCount = s.freeCount ∧
    (s.requestMgmt r).resetCount = s.resetCount ∧ (s.requestMgmt r).service = s.service ∧
    (s.requestMgmt r).restartMark = s.restartMark ∧ (s.requestMgmt r).headFaults = s.headFaults ∧
    (s.requestMgmt r).partFault = s.partFault ∧ (s.requestMgmt r).measure = s.measure ∧
    (s.requestMgmt r).ctx = s.ctx ∧ (s.requestMgmt r).settings = s.settings ∧
    (s.requestMgmt r).lookup = s.lookup ∧ (s.requestMgmt r).waiting = s.waiting ∧
    (s.requestMgmt r).settle = s.settle ∧ (s.requestMgmt r).behind = s.behind ∧
    (s.requestMgmt r).capture = s.capture ∧ (s.requestMgmt r).spill = s.spill ∧ (s.requestMgmt r).time = s.time ∧
    (s.requestMgmt r).headTime = s.headTime ∧ (s.requestMgmt r).cells = s.cells ∧
    (s.requestMgmt r).report = s.report ∧ (s.requestMgmt r).ports = s.ports ∧
    (s.requestMgmt r).uplink = s.uplink ∧ (s.requestMgmt r).mgmt = s.mgmt := by simp [State.requestMgmt]

@[simp] theorem State.startWalk_frame (s : State) (c : Charge) (k : CellKey) (ws : List Head) (p : Bool) :
    (s.startWalk c k ws p).pending = s.pending ∧ (s.startWalk c k ws p).freeCount = s.freeCount ∧
    (s.startWalk c k ws p).resetCount = s.resetCount ∧ (s.startWalk c k ws p).service = s.service ∧
    (s.startWalk c k ws p).restartMark = s.restartMark ∧ (s.startWalk c k ws p).headFaults = s.headFaults ∧
    (s.startWalk c k ws p).partFault = s.partFault ∧ (s.startWalk c k ws p).measure = s.measure ∧
    (s.startWalk c k ws p).ctx = s.ctx ∧ (s.startWalk c k ws p).settings = s.settings ∧
    (s.startWalk c k ws p).waiting = s.waiting ∧ (s.startWalk c k ws p).settle = s.settle ∧
    (s.startWalk c k ws p).behind = s.behind ∧ (s.startWalk c k ws p).capture = s.capture ∧
    (s.startWalk c k ws p).spill = s.spill ∧ (s.startWalk c k ws p).time = s.time ∧
    (s.startWalk c k ws p).headTime = s.headTime ∧ (s.startWalk c k ws p).cells = s.cells ∧
    (s.startWalk c k ws p).report = s.report ∧ (s.startWalk c k ws p).ports = s.ports ∧
    (s.startWalk c k ws p).uplink = s.uplink ∧ (s.startWalk c k ws p).mgmt = s.mgmt := by simp [State.startWalk]

@[simp] theorem State.walkRequest_frame (s : State) (c : Charge) (b : Nat) :
    (s.walkRequest c b).pending = s.pending ∧ (s.walkRequest c b).freeCount = s.freeCount ∧
    (s.walkRequest c b).resetCount = s.resetCount ∧ (s.walkRequest c b).service = s.service ∧
    (s.walkRequest c b).restartMark = s.restartMark ∧ (s.walkRequest c b).headFaults = s.headFaults ∧
    (s.walkRequest c b).partFault = s.partFault ∧ (s.walkRequest c b).measure = s.measure ∧
    (s.walkRequest c b).ctx = s.ctx ∧ (s.walkRequest c b).settings = s.settings ∧
    (s.walkRequest c b).waiting = s.waiting ∧ (s.walkRequest c b).settle = s.settle ∧
    (s.walkRequest c b).behind = s.behind ∧ (s.walkRequest c b).capture = s.capture ∧
    (s.walkRequest c b).spill = s.spill ∧ (s.walkRequest c b).time = s.time ∧
    (s.walkRequest c b).headTime = s.headTime ∧ (s.walkRequest c b).cells = s.cells ∧
    (s.walkRequest c b).report = s.report ∧ (s.walkRequest c b).ports = s.ports ∧
    (s.walkRequest c b).uplink = s.uplink ∧ (s.walkRequest c b).mgmt = s.mgmt := by simp [State.walkRequest]

@[simp] theorem State.restartWalk_frame (s : State) (w : Walk) :
    (s.restartWalk w).pending = s.pending ∧ (s.restartWalk w).freeCount = s.freeCount ∧
    (s.restartWalk w).resetCount = s.resetCount ∧ (s.restartWalk w).service = s.service ∧
    (s.restartWalk w).restartMark = s.restartMark ∧ (s.restartWalk w).headFaults = s.headFaults ∧
    (s.restartWalk w).partFault = s.partFault ∧ (s.restartWalk w).measure = s.measure ∧
    (s.restartWalk w).ctx = s.ctx ∧ (s.restartWalk w).settings = s.settings ∧
    (s.restartWalk w).waiting = s.waiting ∧ (s.restartWalk w).settle = s.settle ∧
    (s.restartWalk w).behind = s.behind ∧ (s.restartWalk w).capture = s.capture ∧
    (s.restartWalk w).spill = s.spill ∧ (s.restartWalk w).time = s.time ∧
    (s.restartWalk w).headTime = s.headTime ∧ (s.restartWalk w).cells = s.cells ∧
    (s.restartWalk w).report = s.report ∧ (s.restartWalk w).ports = s.ports ∧
    (s.restartWalk w).uplink = s.uplink ∧ (s.restartWalk w).mgmt = s.mgmt := by simp only [State.restartWalk]; split <;> simp

@[simp] theorem State.dropWalk_frame (s : State) (w : Walk) :
    (s.dropWalk w).pending = s.pending ∧ (s.dropWalk w).freeCount = s.freeCount ∧
    (s.dropWalk w).resetCount = s.resetCount ∧ (s.dropWalk w).service = s.service ∧
    (s.dropWalk w).restartMark = s.restartMark ∧ (s.dropWalk w).headFaults = s.headFaults ∧
    (s.dropWalk w).partFault = s.partFault ∧ (s.dropWalk w).measure = s.measure ∧ (s.dropWalk w).ctx = s.ctx ∧
    (s.dropWalk w).settings = s.settings ∧ (s.dropWalk w).waiting = s.waiting ∧ (s.dropWalk w).settle = s.settle ∧
    (s.dropWalk w).behind = s.behind ∧ (s.dropWalk w).capture = s.capture ∧ (s.dropWalk w).spill = s.spill ∧
    (s.dropWalk w).time = s.time ∧ (s.dropWalk w).headTime = s.headTime ∧ (s.dropWalk w).mem = s.mem ∧
    (s.dropWalk w).cells = s.cells ∧ (s.dropWalk w).report = s.report ∧ (s.dropWalk w).ports = s.ports ∧
    (s.dropWalk w).uplink = s.uplink ∧ (s.dropWalk w).mgmt = s.mgmt := by
  unfold State.dropWalk
  (repeat' split) <;> simp

@[simp] theorem State.discardWalk_frame (s : State) (w : Walk) :
    (s.discardWalk w).pending = s.pending ∧ (s.discardWalk w).freeCount = s.freeCount ∧
    (s.discardWalk w).resetCount = s.resetCount ∧ (s.discardWalk w).service = s.service ∧
    (s.discardWalk w).restartMark = s.restartMark ∧ (s.discardWalk w).headFaults = s.headFaults ∧
    (s.discardWalk w).partFault = s.partFault ∧ (s.discardWalk w).measure = s.measure ∧
    (s.discardWalk w).ctx = s.ctx ∧ (s.discardWalk w).settings = s.settings ∧
    (s.discardWalk w).waiting = s.waiting ∧ (s.discardWalk w).settle = s.settle ∧
    (s.discardWalk w).behind = s.behind ∧ (s.discardWalk w).capture = s.capture ∧
    (s.discardWalk w).spill = s.spill ∧ (s.discardWalk w).time = s.time ∧
    (s.discardWalk w).headTime = s.headTime ∧ (s.discardWalk w).mem = s.mem ∧ (s.discardWalk w).cells = s.cells ∧
    (s.discardWalk w).report = s.report ∧ (s.discardWalk w).ports = s.ports ∧
    (s.discardWalk w).uplink = s.uplink ∧ (s.discardWalk w).mgmt = s.mgmt := by simp [State.discardWalk]

@[simp] theorem State.purgeWalk_frame (s : State) (w : Walk) :
    (s.purgeWalk w).pending = s.pending ∧ (s.purgeWalk w).freeCount = s.freeCount ∧
    (s.purgeWalk w).resetCount = s.resetCount ∧ (s.purgeWalk w).service = s.service ∧
    (s.purgeWalk w).restartMark = s.restartMark ∧ (s.purgeWalk w).headFaults = s.headFaults ∧
    (s.purgeWalk w).partFault = s.partFault ∧ (s.purgeWalk w).measure = s.measure ∧ (s.purgeWalk w).ctx = s.ctx ∧
    (s.purgeWalk w).settings = s.settings ∧ (s.purgeWalk w).waiting = s.waiting ∧
    (s.purgeWalk w).settle = s.settle ∧ (s.purgeWalk w).behind = s.behind ∧ (s.purgeWalk w).capture = s.capture ∧
    (s.purgeWalk w).spill = s.spill ∧ (s.purgeWalk w).time = s.time ∧ (s.purgeWalk w).headTime = s.headTime ∧
    (s.purgeWalk w).cells = s.cells ∧ (s.purgeWalk w).report = s.report ∧ (s.purgeWalk w).ports = s.ports ∧
    (s.purgeWalk w).uplink = s.uplink ∧ (s.purgeWalk w).mgmt = s.mgmt := by
  unfold State.purgeWalk
  (repeat' split) <;> simp

@[simp] theorem State.leaveWalk_frame (s : State) (n : Head) :
    (s.leaveWalk n).pending = s.pending ∧ (s.leaveWalk n).freeCount = s.freeCount ∧
    (s.leaveWalk n).resetCount = s.resetCount ∧ (s.leaveWalk n).service = s.service ∧
    (s.leaveWalk n).restartMark = s.restartMark ∧ (s.leaveWalk n).headFaults = s.headFaults ∧
    (s.leaveWalk n).partFault = s.partFault ∧ (s.leaveWalk n).measure = s.measure ∧ (s.leaveWalk n).ctx = s.ctx ∧
    (s.leaveWalk n).settings = s.settings ∧ (s.leaveWalk n).waiting = s.waiting ∧
    (s.leaveWalk n).settle = s.settle ∧ (s.leaveWalk n).behind = s.behind ∧ (s.leaveWalk n).capture = s.capture ∧
    (s.leaveWalk n).spill = s.spill ∧ (s.leaveWalk n).time = s.time ∧ (s.leaveWalk n).headTime = s.headTime ∧
    (s.leaveWalk n).mem = s.mem ∧ (s.leaveWalk n).cells = s.cells ∧ (s.leaveWalk n).report = s.report ∧
    (s.leaveWalk n).ports = s.ports ∧ (s.leaveWalk n).uplink = s.uplink ∧ (s.leaveWalk n).mgmt = s.mgmt := by simp only [State.leaveWalk]; (repeat' split) <;> simp

@[simp] theorem State.restartTouching_frame (s : State) (p : Nat → Bool) :
    (s.restartTouching p).pending = s.pending ∧ (s.restartTouching p).freeCount = s.freeCount ∧
    (s.restartTouching p).resetCount = s.resetCount ∧ (s.restartTouching p).service = s.service ∧
    (s.restartTouching p).restartMark = s.restartMark ∧ (s.restartTouching p).headFaults = s.headFaults ∧
    (s.restartTouching p).partFault = s.partFault ∧ (s.restartTouching p).measure = s.measure ∧
    (s.restartTouching p).ctx = s.ctx ∧ (s.restartTouching p).settings = s.settings ∧
    (s.restartTouching p).waiting = s.waiting ∧ (s.restartTouching p).settle = s.settle ∧
    (s.restartTouching p).behind = s.behind ∧ (s.restartTouching p).capture = s.capture ∧
    (s.restartTouching p).spill = s.spill ∧ (s.restartTouching p).time = s.time ∧
    (s.restartTouching p).headTime = s.headTime ∧ (s.restartTouching p).cells = s.cells ∧
    (s.restartTouching p).report = s.report ∧ (s.restartTouching p).ports = s.ports ∧
    (s.restartTouching p).uplink = s.uplink ∧ (s.restartTouching p).mgmt = s.mgmt := by
  simp only [State.restartTouching]
  refine ⟨(foldl_keeps State.pending _ (fun s a => by simp) _ _).trans (by simp), (foldl_keeps State.freeCount _ (fun s a => by simp) _ _).trans (by simp), (foldl_keeps State.resetCount _ (fun s a => by simp) _ _).trans (by simp), (foldl_keeps State.service _ (fun s a => by simp) _ _).trans (by simp), (foldl_keeps State.restartMark _ (fun s a => by simp) _ _).trans (by simp), (foldl_keeps State.headFaults _ (fun s a => by simp) _ _).trans (by simp), (foldl_keeps State.partFault _ (fun s a => by simp) _ _).trans (by simp), (foldl_keeps State.measure _ (fun s a => by simp) _ _).trans (by simp), (foldl_keeps State.ctx _ (fun s a => by simp) _ _).trans (by simp), (foldl_keeps State.settings _ (fun s a => by simp) _ _).trans (by simp), (foldl_keeps State.waiting _ (fun s a => by simp) _ _).trans (by simp), (foldl_keeps State.settle _ (fun s a => by simp) _ _).trans (by simp), (foldl_keeps State.behind _ (fun s a => by simp) _ _).trans (by simp), (foldl_keeps State.capture _ (fun s a => by simp) _ _).trans (by simp), (foldl_keeps State.spill _ (fun s a => by simp) _ _).trans (by simp), (foldl_keeps State.time _ (fun s a => by simp) _ _).trans (by simp), (foldl_keeps State.headTime _ (fun s a => by simp) _ _).trans (by simp), (foldl_keeps State.cells _ (fun s a => by simp) _ _).trans (by simp), (foldl_keeps State.report _ (fun s a => by simp) _ _).trans (by simp), (foldl_keeps State.ports _ (fun s a => by simp) _ _).trans (by simp), (foldl_keeps State.uplink _ (fun s a => by simp) _ _).trans (by simp), (foldl_keeps State.mgmt _ (fun s a => by simp) _ _).trans (by simp)⟩

@[simp] theorem State.applyWrite_frame (s : State) (a n : Nat) :
    (s.applyWrite a n).pending = s.pending ∧ (s.applyWrite a n).resetCount = s.resetCount ∧
    (s.applyWrite a n).service = s.service ∧ (s.applyWrite a n).restartMark = s.restartMark ∧
    (s.applyWrite a n).headFaults = s.headFaults ∧ (s.applyWrite a n).partFault = s.partFault ∧
    (s.applyWrite a n).measure = s.measure ∧ (s.applyWrite a n).ctx = s.ctx ∧
    (s.applyWrite a n).settings = s.settings ∧ (s.applyWrite a n).waiting = s.waiting ∧
    (s.applyWrite a n).settle = s.settle ∧ (s.applyWrite a n).behind = s.behind ∧
    (s.applyWrite a n).capture = s.capture ∧ (s.applyWrite a n).spill = s.spill ∧
    (s.applyWrite a n).time = s.time ∧ (s.applyWrite a n).headTime = s.headTime ∧
    (s.applyWrite a n).cells = s.cells ∧ (s.applyWrite a n).report = s.report ∧
    (s.applyWrite a n).ports = s.ports ∧ (s.applyWrite a n).uplink = s.uplink ∧ (s.applyWrite a n).mgmt = s.mgmt := by simp [State.applyWrite]

@[simp] theorem State.clearSettle_frame (s : State) (n : Head) :
    (s.clearSettle n).pending = s.pending ∧ (s.clearSettle n).freeCount = s.freeCount ∧
    (s.clearSettle n).resetCount = s.resetCount ∧ (s.clearSettle n).service = s.service ∧
    (s.clearSettle n).restartMark = s.restartMark ∧ (s.clearSettle n).headFaults = s.headFaults ∧
    (s.clearSettle n).partFault = s.partFault ∧ (s.clearSettle n).measure = s.measure ∧
    (s.clearSettle n).ctx = s.ctx ∧ (s.clearSettle n).settings = s.settings ∧
    (s.clearSettle n).lookup = s.lookup ∧ (s.clearSettle n).waiting = s.waiting ∧
    (s.clearSettle n).behind = s.behind ∧ (s.clearSettle n).capture = s.capture ∧
    (s.clearSettle n).spill = s.spill ∧ (s.clearSettle n).time = s.time ∧
    (s.clearSettle n).headTime = s.headTime ∧ (s.clearSettle n).mem = s.mem ∧ (s.clearSettle n).cells = s.cells ∧
    (s.clearSettle n).report = s.report ∧ (s.clearSettle n).ports = s.ports ∧
    (s.clearSettle n).uplink = s.uplink ∧ (s.clearSettle n).mgmt = s.mgmt := by simp [State.clearSettle]

@[simp] theorem State.clearAllSettle_frame (s : State) :
    (s.clearAllSettle).pending = s.pending ∧ (s.clearAllSettle).freeCount = s.freeCount ∧
    (s.clearAllSettle).resetCount = s.resetCount ∧ (s.clearAllSettle).service = s.service ∧
    (s.clearAllSettle).restartMark = s.restartMark ∧ (s.clearAllSettle).headFaults = s.headFaults ∧
    (s.clearAllSettle).partFault = s.partFault ∧ (s.clearAllSettle).measure = s.measure ∧
    (s.clearAllSettle).ctx = s.ctx ∧ (s.clearAllSettle).settings = s.settings ∧
    (s.clearAllSettle).lookup = s.lookup ∧ (s.clearAllSettle).waiting = s.waiting ∧
    (s.clearAllSettle).behind = s.behind ∧ (s.clearAllSettle).capture = s.capture ∧
    (s.clearAllSettle).spill = s.spill ∧ (s.clearAllSettle).time = s.time ∧
    (s.clearAllSettle).headTime = s.headTime ∧ (s.clearAllSettle).mem = s.mem ∧
    (s.clearAllSettle).cells = s.cells ∧ (s.clearAllSettle).report = s.report ∧
    (s.clearAllSettle).ports = s.ports ∧ (s.clearAllSettle).uplink = s.uplink ∧ (s.clearAllSettle).mgmt = s.mgmt := by simp [State.clearAllSettle]

@[simp] theorem State.settleWork_frame (s : State) (n : Head) (h : Handed) :
    (s.settleWork n h).pending = s.pending ∧ (s.settleWork n h).freeCount = s.freeCount ∧
    (s.settleWork n h).resetCount = s.resetCount ∧ (s.settleWork n h).service = s.service ∧
    (s.settleWork n h).restartMark = s.restartMark ∧ (s.settleWork n h).headFaults = s.headFaults ∧
    (s.settleWork n h).partFault = s.partFault ∧ (s.settleWork n h).measure = s.measure ∧
    (s.settleWork n h).ctx = s.ctx ∧ (s.settleWork n h).settings = s.settings ∧
    (s.settleWork n h).lookup = s.lookup ∧ (s.settleWork n h).waiting = s.waiting ∧
    (s.settleWork n h).behind = s.behind ∧ (s.settleWork n h).spill = s.spill ∧ (s.settleWork n h).time = s.time ∧
    (s.settleWork n h).headTime = s.headTime ∧ (s.settleWork n h).mem = s.mem ∧
    (s.settleWork n h).cells = s.cells ∧ (s.settleWork n h).ports = s.ports ∧ (s.settleWork n h).mgmt = s.mgmt := by simp only [State.settleWork]; (repeat' split) <;> simp

@[simp] theorem State.toCapture_frame (s : State) (n : Head) (h : Handed) :
    (s.toCapture n h).pending = s.pending ∧ (s.toCapture n h).freeCount = s.freeCount ∧
    (s.toCapture n h).resetCount = s.resetCount ∧ (s.toCapture n h).service = s.service ∧
    (s.toCapture n h).restartMark = s.restartMark ∧ (s.toCapture n h).headFaults = s.headFaults ∧
    (s.toCapture n h).partFault = s.partFault ∧ (s.toCapture n h).measure = s.measure ∧
    (s.toCapture n h).ctx = s.ctx ∧ (s.toCapture n h).settings = s.settings ∧
    (s.toCapture n h).lookup = s.lookup ∧ (s.toCapture n h).waiting = s.waiting ∧
    (s.toCapture n h).spill = s.spill ∧ (s.toCapture n h).time = s.time ∧
    (s.toCapture n h).headTime = s.headTime ∧ (s.toCapture n h).mem = s.mem ∧ (s.toCapture n h).cells = s.cells ∧
    (s.toCapture n h).ports = s.ports ∧ (s.toCapture n h).mgmt = s.mgmt := by
  unfold State.toCapture
  (repeat' split) <;> simp

@[simp] theorem State.followBehind_frame (s : State) (n : Head) :
    (s.followBehind n).pending = s.pending ∧ (s.followBehind n).freeCount = s.freeCount ∧
    (s.followBehind n).resetCount = s.resetCount ∧ (s.followBehind n).service = s.service ∧
    (s.followBehind n).restartMark = s.restartMark ∧ (s.followBehind n).headFaults = s.headFaults ∧
    (s.followBehind n).partFault = s.partFault ∧ (s.followBehind n).measure = s.measure ∧
    (s.followBehind n).ctx = s.ctx ∧ (s.followBehind n).settings = s.settings ∧
    (s.followBehind n).lookup = s.lookup ∧ (s.followBehind n).waiting = s.waiting ∧
    (s.followBehind n).spill = s.spill ∧ (s.followBehind n).time = s.time ∧
    (s.followBehind n).headTime = s.headTime ∧ (s.followBehind n).mem = s.mem ∧
    (s.followBehind n).cells = s.cells ∧ (s.followBehind n).ports = s.ports ∧ (s.followBehind n).mgmt = s.mgmt := by
  simp only [State.followBehind]
  refine ⟨(foldl_keeps State.pending _ (fun s a => by simp) _ _).trans (by simp), (foldl_keeps State.freeCount _ (fun s a => by simp) _ _).trans (by simp), (foldl_keeps State.resetCount _ (fun s a => by simp) _ _).trans (by simp), (foldl_keeps State.service _ (fun s a => by simp) _ _).trans (by simp), (foldl_keeps State.restartMark _ (fun s a => by simp) _ _).trans (by simp), (foldl_keeps State.headFaults _ (fun s a => by simp) _ _).trans (by simp), (foldl_keeps State.partFault _ (fun s a => by simp) _ _).trans (by simp), (foldl_keeps State.measure _ (fun s a => by simp) _ _).trans (by simp), (foldl_keeps State.ctx _ (fun s a => by simp) _ _).trans (by simp), (foldl_keeps State.settings _ (fun s a => by simp) _ _).trans (by simp), (foldl_keeps State.lookup _ (fun s a => by simp) _ _).trans (by simp), (foldl_keeps State.waiting _ (fun s a => by simp) _ _).trans (by simp), (foldl_keeps State.spill _ (fun s a => by simp) _ _).trans (by simp), (foldl_keeps State.time _ (fun s a => by simp) _ _).trans (by simp), (foldl_keeps State.headTime _ (fun s a => by simp) _ _).trans (by simp), (foldl_keeps State.mem _ (fun s a => by simp) _ _).trans (by simp), (foldl_keeps State.cells _ (fun s a => by simp) _ _).trans (by simp), (foldl_keeps State.ports _ (fun s a => by simp) _ _).trans (by simp), (foldl_keeps State.mgmt _ (fun s a => by simp) _ _).trans (by simp)⟩

@[simp] theorem State.endAttempt_frame (s : State) (a : Attempt) :
    (s.endAttempt a).pending = s.pending ∧ (s.endAttempt a).freeCount = s.freeCount ∧
    (s.endAttempt a).resetCount = s.resetCount ∧ (s.endAttempt a).service = s.service ∧
    (s.endAttempt a).restartMark = s.restartMark ∧ (s.endAttempt a).headFaults = s.headFaults ∧
    (s.endAttempt a).partFault = s.partFault ∧ (s.endAttempt a).measure = s.measure ∧
    (s.endAttempt a).ctx = s.ctx ∧ (s.endAttempt a).settings = s.settings ∧ (s.endAttempt a).lookup = s.lookup ∧
    (s.endAttempt a).waiting = s.waiting ∧ (s.endAttempt a).spill = s.spill ∧ (s.endAttempt a).time = s.time ∧
    (s.endAttempt a).headTime = s.headTime ∧ (s.endAttempt a).mem = s.mem ∧ (s.endAttempt a).cells = s.cells ∧
    (s.endAttempt a).ports = s.ports ∧ (s.endAttempt a).mgmt = s.mgmt := by simp [State.endAttempt]

@[simp] theorem State.dropAttempts_frame (s : State) (p : Attempt → Bool) :
    (s.dropAttempts p).pending = s.pending ∧ (s.dropAttempts p).freeCount = s.freeCount ∧
    (s.dropAttempts p).resetCount = s.resetCount ∧ (s.dropAttempts p).service = s.service ∧
    (s.dropAttempts p).restartMark = s.restartMark ∧ (s.dropAttempts p).headFaults = s.headFaults ∧
    (s.dropAttempts p).partFault = s.partFault ∧ (s.dropAttempts p).measure = s.measure ∧
    (s.dropAttempts p).ctx = s.ctx ∧ (s.dropAttempts p).settings = s.settings ∧
    (s.dropAttempts p).lookup = s.lookup ∧ (s.dropAttempts p).waiting = s.waiting ∧
    (s.dropAttempts p).spill = s.spill ∧ (s.dropAttempts p).time = s.time ∧
    (s.dropAttempts p).headTime = s.headTime ∧ (s.dropAttempts p).mem = s.mem ∧
    (s.dropAttempts p).cells = s.cells ∧ (s.dropAttempts p).ports = s.ports ∧ (s.dropAttempts p).mgmt = s.mgmt := by
  simp only [State.dropAttempts]
  refine ⟨(foldl_keeps State.pending _ (fun s a => by simp) _ _).trans (by simp), (foldl_keeps State.freeCount _ (fun s a => by simp) _ _).trans (by simp), (foldl_keeps State.resetCount _ (fun s a => by simp) _ _).trans (by simp), (foldl_keeps State.service _ (fun s a => by simp) _ _).trans (by simp), (foldl_keeps State.restartMark _ (fun s a => by simp) _ _).trans (by simp), (foldl_keeps State.headFaults _ (fun s a => by simp) _ _).trans (by simp), (foldl_keeps State.partFault _ (fun s a => by simp) _ _).trans (by simp), (foldl_keeps State.measure _ (fun s a => by simp) _ _).trans (by simp), (foldl_keeps State.ctx _ (fun s a => by simp) _ _).trans (by simp), (foldl_keeps State.settings _ (fun s a => by simp) _ _).trans (by simp), (foldl_keeps State.lookup _ (fun s a => by simp) _ _).trans (by simp), (foldl_keeps State.waiting _ (fun s a => by simp) _ _).trans (by simp), (foldl_keeps State.spill _ (fun s a => by simp) _ _).trans (by simp), (foldl_keeps State.time _ (fun s a => by simp) _ _).trans (by simp), (foldl_keeps State.headTime _ (fun s a => by simp) _ _).trans (by simp), (foldl_keeps State.mem _ (fun s a => by simp) _ _).trans (by simp), (foldl_keeps State.cells _ (fun s a => by simp) _ _).trans (by simp), (foldl_keeps State.ports _ (fun s a => by simp) _ _).trans (by simp), (foldl_keeps State.mgmt _ (fun s a => by simp) _ _).trans (by simp)⟩

@[simp] theorem State.placeRecord_frame (s : State) (r : Room) (d : List Byte) :
    (s.placeRecord r d).pending = s.pending ∧ (s.placeRecord r d).freeCount = s.freeCount ∧
    (s.placeRecord r d).resetCount = s.resetCount ∧ (s.placeRecord r d).service = s.service ∧
    (s.placeRecord r d).restartMark = s.restartMark ∧ (s.placeRecord r d).headFaults = s.headFaults ∧
    (s.placeRecord r d).partFault = s.partFault ∧ (s.placeRecord r d).measure = s.measure ∧
    (s.placeRecord r d).ctx = s.ctx ∧ (s.placeRecord r d).settings = s.settings ∧
    (s.placeRecord r d).lookup = s.lookup ∧ (s.placeRecord r d).waiting = s.waiting ∧
    (s.placeRecord r d).settle = s.settle ∧ (s.placeRecord r d).behind = s.behind ∧
    (s.placeRecord r d).capture = s.capture ∧ (s.placeRecord r d).time = s.time ∧
    (s.placeRecord r d).headTime = s.headTime ∧ (s.placeRecord r d).cells = s.cells ∧
    (s.placeRecord r d).ports = s.ports ∧ (s.placeRecord r d).mgmt = s.mgmt := by cases r <;> simp [State.placeRecord]

@[simp] theorem State.makeCapture_frame (s : State) (a : Attempt) (r : Room) (k : Nat) (q : SettleQueue) :
    (s.makeCapture a r k q).pending = s.pending ∧ (s.makeCapture a r k q).freeCount = s.freeCount ∧
    (s.makeCapture a r k q).resetCount = s.resetCount ∧ (s.makeCapture a r k q).service = s.service ∧
    (s.makeCapture a r k q).restartMark = s.restartMark ∧ (s.makeCapture a r k q).headFaults = s.headFaults ∧
    (s.makeCapture a r k q).partFault = s.partFault ∧ (s.makeCapture a r k q).measure = s.measure ∧
    (s.makeCapture a r k q).ctx = s.ctx ∧ (s.makeCapture a r k q).settings = s.settings ∧
    (s.makeCapture a r k q).waiting = s.waiting ∧ (s.makeCapture a r k q).behind = s.behind ∧
    (s.makeCapture a r k q).time = s.time ∧ (s.makeCapture a r k q).cells = s.cells ∧
    (s.makeCapture a r k q).ports = s.ports ∧ (s.makeCapture a r k q).mgmt = s.mgmt := by simp [State.makeCapture]

@[simp] theorem State.reserveRoom_frame (s : State) (r : Room) :
    (s.reserveRoom r).pending = s.pending ∧ (s.reserveRoom r).freeCount = s.freeCount ∧
    (s.reserveRoom r).resetCount = s.resetCount ∧ (s.reserveRoom r).service = s.service ∧
    (s.reserveRoom r).restartMark = s.restartMark ∧ (s.reserveRoom r).headFaults = s.headFaults ∧
    (s.reserveRoom r).partFault = s.partFault ∧ (s.reserveRoom r).measure = s.measure ∧
    (s.reserveRoom r).ctx = s.ctx ∧ (s.reserveRoom r).settings = s.settings ∧
    (s.reserveRoom r).lookup = s.lookup ∧ (s.reserveRoom r).waiting = s.waiting ∧
    (s.reserveRoom r).settle = s.settle ∧ (s.reserveRoom r).behind = s.behind ∧
    (s.reserveRoom r).capture = s.capture ∧ (s.reserveRoom r).spill = s.spill ∧ (s.reserveRoom r).time = s.time ∧
    (s.reserveRoom r).headTime = s.headTime ∧ (s.reserveRoom r).mem = s.mem ∧ (s.reserveRoom r).cells = s.cells ∧
    (s.reserveRoom r).ports = s.ports ∧ (s.reserveRoom r).uplink = s.uplink ∧ (s.reserveRoom r).mgmt = s.mgmt := by cases r <;> simp [State.reserveRoom]

@[simp] theorem State.releaseRoom_frame (s : State) (r : Room) :
    (s.releaseRoom r).pending = s.pending ∧ (s.releaseRoom r).freeCount = s.freeCount ∧
    (s.releaseRoom r).resetCount = s.resetCount ∧ (s.releaseRoom r).service = s.service ∧
    (s.releaseRoom r).restartMark = s.restartMark ∧ (s.releaseRoom r).headFaults = s.headFaults ∧
    (s.releaseRoom r).partFault = s.partFault ∧ (s.releaseRoom r).measure = s.measure ∧
    (s.releaseRoom r).ctx = s.ctx ∧ (s.releaseRoom r).settings = s.settings ∧
    (s.releaseRoom r).lookup = s.lookup ∧ (s.releaseRoom r).waiting = s.waiting ∧
    (s.releaseRoom r).settle = s.settle ∧ (s.releaseRoom r).behind = s.behind ∧
    (s.releaseRoom r).capture = s.capture ∧ (s.releaseRoom r).spill = s.spill ∧ (s.releaseRoom r).time = s.time ∧
    (s.releaseRoom r).headTime = s.headTime ∧ (s.releaseRoom r).mem = s.mem ∧ (s.releaseRoom r).cells = s.cells ∧
    (s.releaseRoom r).ports = s.ports ∧ (s.releaseRoom r).uplink = s.uplink ∧ (s.releaseRoom r).mgmt = s.mgmt := by cases r <;> simp [State.releaseRoom]

@[simp] theorem State.refuseCapture_frame (s : State) (a : Attempt) (f : Bool) :
    (s.refuseCapture a f).pending = s.pending ∧ (s.refuseCapture a f).freeCount = s.freeCount ∧
    (s.refuseCapture a f).resetCount = s.resetCount ∧ (s.refuseCapture a f).service = s.service ∧
    (s.refuseCapture a f).restartMark = s.restartMark ∧ (s.refuseCapture a f).measure = s.measure ∧
    (s.refuseCapture a f).ctx = s.ctx ∧ (s.refuseCapture a f).settings = s.settings ∧
    (s.refuseCapture a f).lookup = s.lookup ∧ (s.refuseCapture a f).waiting = s.waiting ∧
    (s.refuseCapture a f).behind = s.behind ∧ (s.refuseCapture a f).capture = s.capture ∧
    (s.refuseCapture a f).spill = s.spill ∧ (s.refuseCapture a f).time = s.time ∧
    (s.refuseCapture a f).headTime = s.headTime ∧ (s.refuseCapture a f).mem = s.mem ∧
    (s.refuseCapture a f).cells = s.cells ∧ (s.refuseCapture a f).ports = s.ports ∧
    (s.refuseCapture a f).uplink = s.uplink ∧ (s.refuseCapture a f).mgmt = s.mgmt := by simp only [State.refuseCapture]; split <;> simp

@[simp] theorem State.updateAndMake_frame (s : State) (a : Attempt) (r : Room) :
    (s.updateAndMake a r).pending = s.pending ∧ (s.updateAndMake a r).freeCount = s.freeCount ∧
    (s.updateAndMake a r).resetCount = s.resetCount ∧ (s.updateAndMake a r).service = s.service ∧
    (s.updateAndMake a r).restartMark = s.restartMark ∧ (s.updateAndMake a r).headFaults = s.headFaults ∧
    (s.updateAndMake a r).partFault = s.partFault ∧ (s.updateAndMake a r).measure = s.measure ∧
    (s.updateAndMake a r).ctx = s.ctx ∧ (s.updateAndMake a r).settings = s.settings ∧
    (s.updateAndMake a r).waiting = s.waiting ∧ (s.updateAndMake a r).behind = s.behind ∧
    (s.updateAndMake a r).time = s.time ∧ (s.updateAndMake a r).cells = s.cells ∧
    (s.updateAndMake a r).ports = s.ports ∧ (s.updateAndMake a r).mgmt = s.mgmt := by simp only [State.updateAndMake]; (repeat' split) <;> simp

@[simp] theorem State.runAttempt_frame (s : State) (a : Attempt) :
    (s.runAttempt a).pending = s.pending ∧ (s.runAttempt a).freeCount = s.freeCount ∧
    (s.runAttempt a).resetCount = s.resetCount ∧ (s.runAttempt a).service = s.service ∧
    (s.runAttempt a).restartMark = s.restartMark ∧ (s.runAttempt a).measure = s.measure ∧
    (s.runAttempt a).ctx = s.ctx ∧ (s.runAttempt a).settings = s.settings ∧ (s.runAttempt a).waiting = s.waiting ∧
    (s.runAttempt a).behind = s.behind ∧ (s.runAttempt a).time = s.time ∧ (s.runAttempt a).cells = s.cells ∧
    (s.runAttempt a).ports = s.ports ∧ (s.runAttempt a).mgmt = s.mgmt := by
  unfold State.runAttempt
  (repeat' split) <;> simp

@[simp] theorem State.setAttempt_frame (s : State) (h : Option Head) :
    (s.setAttempt h).pending = s.pending ∧ (s.setAttempt h).freeCount = s.freeCount ∧
    (s.setAttempt h).resetCount = s.resetCount ∧ (s.setAttempt h).service = s.service ∧
    (s.setAttempt h).restartMark = s.restartMark ∧ (s.setAttempt h).headFaults = s.headFaults ∧
    (s.setAttempt h).partFault = s.partFault ∧ (s.setAttempt h).measure = s.measure ∧
    (s.setAttempt h).ctx = s.ctx ∧ (s.setAttempt h).settings = s.settings ∧ (s.setAttempt h).lookup = s.lookup ∧
    (s.setAttempt h).waiting = s.waiting ∧ (s.setAttempt h).settle = s.settle ∧
    (s.setAttempt h).behind = s.behind ∧ (s.setAttempt h).spill = s.spill ∧ (s.setAttempt h).time = s.time ∧
    (s.setAttempt h).headTime = s.headTime ∧ (s.setAttempt h).mem = s.mem ∧ (s.setAttempt h).cells = s.cells ∧
    (s.setAttempt h).report = s.report ∧ (s.setAttempt h).ports = s.ports ∧ (s.setAttempt h).uplink = s.uplink ∧
    (s.setAttempt h).mgmt = s.mgmt := by simp [State.setAttempt]

@[simp] theorem State.attempt_frame (s : State) (a : Attempt) (l : List Attempt) :
    (s.attempt a l).pending = s.pending ∧ (s.attempt a l).freeCount = s.freeCount ∧
    (s.attempt a l).resetCount = s.resetCount ∧ (s.attempt a l).service = s.service ∧
    (s.attempt a l).restartMark = s.restartMark ∧ (s.attempt a l).measure = s.measure ∧
    (s.attempt a l).ctx = s.ctx ∧ (s.attempt a l).settings = s.settings ∧ (s.attempt a l).waiting = s.waiting ∧
    (s.attempt a l).time = s.time ∧ (s.attempt a l).cells = s.cells ∧ (s.attempt a l).ports = s.ports ∧
    (s.attempt a l).mgmt = s.mgmt := by simp [State.attempt]

@[simp] theorem State.handOn_frame (s : State) (n : Head) (m : MeasuredSample) (r : LookupResult) :
    (s.handOn n m r).pending = s.pending ∧ (s.handOn n m r).freeCount = s.freeCount ∧
    (s.handOn n m r).resetCount = s.resetCount ∧ (s.handOn n m r).service = s.service ∧
    (s.handOn n m r).restartMark = s.restartMark ∧ (s.handOn n m r).measure = s.measure ∧
    (s.handOn n m r).ctx = s.ctx ∧ (s.handOn n m r).settings = s.settings ∧ (s.handOn n m r).lookup = s.lookup ∧
    (s.handOn n m r).waiting = s.waiting ∧ (s.handOn n m r).spill = s.spill ∧ (s.handOn n m r).time = s.time ∧
    (s.handOn n m r).headTime = s.headTime ∧ (s.handOn n m r).mem = s.mem ∧ (s.handOn n m r).cells = s.cells ∧
    (s.handOn n m r).ports = s.ports ∧ (s.handOn n m r).mgmt = s.mgmt := by simp only [State.handOn]; split <;> simp

@[simp] theorem State.finishLate_frame (s : State) (n : Head) :
    (s.finishLate n).pending = s.pending ∧ (s.finishLate n).freeCount = s.freeCount ∧
    (s.finishLate n).resetCount = s.resetCount ∧ (s.finishLate n).service = s.service ∧
    (s.finishLate n).restartMark = s.restartMark ∧ (s.finishLate n).measure = s.measure ∧
    (s.finishLate n).ctx = s.ctx ∧ (s.finishLate n).settings = s.settings ∧ (s.finishLate n).lookup = s.lookup ∧
    (s.finishLate n).spill = s.spill ∧ (s.finishLate n).time = s.time ∧ (s.finishLate n).headTime = s.headTime ∧
    (s.finishLate n).mem = s.mem ∧ (s.finishLate n).cells = s.cells ∧ (s.finishLate n).ports = s.ports ∧
    (s.finishLate n).mgmt = s.mgmt := by
  unfold State.finishLate
  (repeat' split) <;> simp

@[simp] theorem State.finishAllLate_frame (s : State) (p : WaitingSample → Bool) :
    (s.finishAllLate p).pending = s.pending ∧ (s.finishAllLate p).resetCount = s.resetCount ∧
    (s.finishAllLate p).service = s.service ∧ (s.finishAllLate p).restartMark = s.restartMark ∧
    (s.finishAllLate p).measure = s.measure ∧ (s.finishAllLate p).ctx = s.ctx ∧
    (s.finishAllLate p).settings = s.settings ∧ (s.finishAllLate p).lookup = s.lookup ∧
    (s.finishAllLate p).spill = s.spill ∧ (s.finishAllLate p).time = s.time ∧
    (s.finishAllLate p).headTime = s.headTime ∧ (s.finishAllLate p).mem = s.mem ∧
    (s.finishAllLate p).cells = s.cells ∧ (s.finishAllLate p).ports = s.ports ∧
    (s.finishAllLate p).mgmt = s.mgmt := by
  simp only [State.finishAllLate]
  refine ⟨(foldl_keeps State.pending _ (fun s a => by simp) _ _).trans (by simp), (foldl_keeps State.resetCount _ (fun s a => by simp) _ _).trans (by simp), (foldl_keeps State.service _ (fun s a => by simp) _ _).trans (by simp), (foldl_keeps State.restartMark _ (fun s a => by simp) _ _).trans (by simp), (foldl_keeps State.measure _ (fun s a => by simp) _ _).trans (by simp), (foldl_keeps State.ctx _ (fun s a => by simp) _ _).trans (by simp), (foldl_keeps State.settings _ (fun s a => by simp) _ _).trans (by simp), (foldl_keeps State.lookup _ (fun s a => by simp) _ _).trans (by simp), (foldl_keeps State.spill _ (fun s a => by simp) _ _).trans (by simp), (foldl_keeps State.time _ (fun s a => by simp) _ _).trans (by simp), (foldl_keeps State.headTime _ (fun s a => by simp) _ _).trans (by simp), (foldl_keeps State.mem _ (fun s a => by simp) _ _).trans (by simp), (foldl_keeps State.cells _ (fun s a => by simp) _ _).trans (by simp), (foldl_keeps State.ports _ (fun s a => by simp) _ _).trans (by simp), (foldl_keeps State.mgmt _ (fun s a => by simp) _ _).trans (by simp)⟩

@[simp] theorem State.joinWalk_frame (s : State) (n : Head) (m : MeasuredSample) (w : Walk) :
    (s.joinWalk n m w).pending = s.pending ∧ (s.joinWalk n m w).freeCount = s.freeCount ∧
    (s.joinWalk n m w).resetCount = s.resetCount ∧ (s.joinWalk n m w).service = s.service ∧
    (s.joinWalk n m w).restartMark = s.restartMark ∧ (s.joinWalk n m w).headFaults = s.headFaults ∧
    (s.joinWalk n m w).partFault = s.partFault ∧ (s.joinWalk n m w).measure = s.measure ∧
    (s.joinWalk n m w).ctx = s.ctx ∧ (s.joinWalk n m w).settings = s.settings ∧
    (s.joinWalk n m w).settle = s.settle ∧ (s.joinWalk n m w).behind = s.behind ∧
    (s.joinWalk n m w).capture = s.capture ∧ (s.joinWalk n m w).spill = s.spill ∧
    (s.joinWalk n m w).time = s.time ∧ (s.joinWalk n m w).headTime = s.headTime ∧ (s.joinWalk n m w).mem = s.mem ∧
    (s.joinWalk n m w).cells = s.cells ∧ (s.joinWalk n m w).report = s.report ∧
    (s.joinWalk n m w).ports = s.ports ∧ (s.joinWalk n m w).uplink = s.uplink ∧ (s.joinWalk n m w).mgmt = s.mgmt := by simp [State.joinWalk]

@[simp] theorem State.startHeadWalk_frame (s : State) (n : Head) (m : MeasuredSample) (k : CellKey) :
    (s.startHeadWalk n m k).pending = s.pending ∧ (s.startHeadWalk n m k).freeCount = s.freeCount ∧
    (s.startHeadWalk n m k).resetCount = s.resetCount ∧ (s.startHeadWalk n m k).service = s.service ∧
    (s.startHeadWalk n m k).restartMark = s.restartMark ∧ (s.startHeadWalk n m k).headFaults = s.headFaults ∧
    (s.startHeadWalk n m k).partFault = s.partFault ∧ (s.startHeadWalk n m k).measure = s.measure ∧
    (s.startHeadWalk n m k).ctx = s.ctx ∧ (s.startHeadWalk n m k).settings = s.settings ∧
    (s.startHeadWalk n m k).settle = s.settle ∧ (s.startHeadWalk n m k).behind = s.behind ∧
    (s.startHeadWalk n m k).capture = s.capture ∧ (s.startHeadWalk n m k).spill = s.spill ∧
    (s.startHeadWalk n m k).time = s.time ∧ (s.startHeadWalk n m k).headTime = s.headTime ∧
    (s.startHeadWalk n m k).cells = s.cells ∧ (s.startHeadWalk n m k).report = s.report ∧
    (s.startHeadWalk n m k).ports = s.ports ∧ (s.startHeadWalk n m k).uplink = s.uplink ∧
    (s.startHeadWalk n m k).mgmt = s.mgmt := by simp [State.startHeadWalk]

@[simp] theorem State.missed_frame (s : State) (n : Head) (m : MeasuredSample) (k : CellKey) :
    (s.missed n m k).pending = s.pending ∧ (s.missed n m k).freeCount = s.freeCount ∧
    (s.missed n m k).resetCount = s.resetCount ∧ (s.missed n m k).service = s.service ∧
    (s.missed n m k).restartMark = s.restartMark ∧ (s.missed n m k).headFaults = s.headFaults ∧
    (s.missed n m k).partFault = s.partFault ∧ (s.missed n m k).measure = s.measure ∧
    (s.missed n m k).ctx = s.ctx ∧ (s.missed n m k).settings = s.settings ∧ (s.missed n m k).settle = s.settle ∧
    (s.missed n m k).behind = s.behind ∧ (s.missed n m k).capture = s.capture ∧ (s.missed n m k).spill = s.spill ∧
    (s.missed n m k).time = s.time ∧ (s.missed n m k).headTime = s.headTime ∧ (s.missed n m k).cells = s.cells ∧
    (s.missed n m k).report = s.report ∧ (s.missed n m k).ports = s.ports ∧ (s.missed n m k).uplink = s.uplink ∧
    (s.missed n m k).mgmt = s.mgmt := by
  unfold State.missed
  (repeat' split) <;> simp

@[simp] theorem State.lookupFresh_frame (s : State) (n : Head) (m : MeasuredSample) :
    (s.lookupFresh n m).pending = s.pending ∧ (s.lookupFresh n m).freeCount = s.freeCount ∧
    (s.lookupFresh n m).resetCount = s.resetCount ∧ (s.lookupFresh n m).service = s.service ∧
    (s.lookupFresh n m).restartMark = s.restartMark ∧ (s.lookupFresh n m).measure = s.measure ∧
    (s.lookupFresh n m).ctx = s.ctx ∧ (s.lookupFresh n m).settings = s.settings ∧
    (s.lookupFresh n m).spill = s.spill ∧ (s.lookupFresh n m).time = s.time ∧
    (s.lookupFresh n m).headTime = s.headTime ∧ (s.lookupFresh n m).cells = s.cells ∧
    (s.lookupFresh n m).ports = s.ports ∧ (s.lookupFresh n m).mgmt = s.mgmt := by simp only [State.lookupFresh]; (repeat' split) <;> simp

@[simp] theorem State.lookupSample_frame (s : State) (n : Head) (m : MeasuredSample) :
    (s.lookupSample n m).pending = s.pending ∧ (s.lookupSample n m).freeCount = s.freeCount ∧
    (s.lookupSample n m).resetCount = s.resetCount ∧ (s.lookupSample n m).service = s.service ∧
    (s.lookupSample n m).restartMark = s.restartMark ∧ (s.lookupSample n m).measure = s.measure ∧
    (s.lookupSample n m).ctx = s.ctx ∧ (s.lookupSample n m).settings = s.settings ∧
    (s.lookupSample n m).spill = s.spill ∧ (s.lookupSample n m).time = s.time ∧
    (s.lookupSample n m).headTime = s.headTime ∧ (s.lookupSample n m).cells = s.cells ∧
    (s.lookupSample n m).ports = s.ports ∧ (s.lookupSample n m).mgmt = s.mgmt := by
  unfold State.lookupSample
  (repeat' split) <;> simp

@[simp] theorem State.handWaiting_frame (s : State) (r : CellRecord) (n : Head) :
    (s.handWaiting r n).pending = s.pending ∧ (s.handWaiting r n).freeCount = s.freeCount ∧
    (s.handWaiting r n).resetCount = s.resetCount ∧ (s.handWaiting r n).service = s.service ∧
    (s.handWaiting r n).restartMark = s.restartMark ∧ (s.handWaiting r n).measure = s.measure ∧
    (s.handWaiting r n).ctx = s.ctx ∧ (s.handWaiting r n).settings = s.settings ∧
    (s.handWaiting r n).lookup = s.lookup ∧ (s.handWaiting r n).spill = s.spill ∧
    (s.handWaiting r n).time = s.time ∧ (s.handWaiting r n).headTime = s.headTime ∧
    (s.handWaiting r n).mem = s.mem ∧ (s.handWaiting r n).cells = s.cells ∧ (s.handWaiting r n).ports = s.ports ∧
    (s.handWaiting r n).mgmt = s.mgmt := by
  unfold State.handWaiting
  (repeat' split) <;> simp

@[simp] theorem State.answerPin_frame (s : State) (r : CellRecord) :
    (s.answerPin r).pending = s.pending ∧ (s.answerPin r).freeCount = s.freeCount ∧
    (s.answerPin r).resetCount = s.resetCount ∧ (s.answerPin r).service = s.service ∧
    (s.answerPin r).restartMark = s.restartMark ∧ (s.answerPin r).headFaults = s.headFaults ∧
    (s.answerPin r).partFault = s.partFault ∧ (s.answerPin r).measure = s.measure ∧ (s.answerPin r).ctx = s.ctx ∧
    (s.answerPin r).settings = s.settings ∧ (s.answerPin r).lookup = s.lookup ∧
    (s.answerPin r).waiting = s.waiting ∧ (s.answerPin r).settle = s.settle ∧ (s.answerPin r).behind = s.behind ∧
    (s.answerPin r).capture = s.capture ∧ (s.answerPin r).spill = s.spill ∧ (s.answerPin r).time = s.time ∧
    (s.answerPin r).headTime = s.headTime ∧ (s.answerPin r).mem = s.mem ∧ (s.answerPin r).cells = s.cells ∧
    (s.answerPin r).ports = s.ports := by
  unfold State.answerPin
  (repeat' split) <;> simp

@[simp] theorem State.completeWalk_frame (s : State) (w : Walk) (b : Bool) :
    (s.completeWalk w b).pending = s.pending ∧ (s.completeWalk w b).resetCount = s.resetCount ∧
    (s.completeWalk w b).service = s.service ∧ (s.completeWalk w b).restartMark = s.restartMark ∧
    (s.completeWalk w b).measure = s.measure ∧ (s.completeWalk w b).ctx = s.ctx ∧
    (s.completeWalk w b).settings = s.settings ∧ (s.completeWalk w b).spill = s.spill ∧
    (s.completeWalk w b).time = s.time ∧ (s.completeWalk w b).headTime = s.headTime ∧
    (s.completeWalk w b).mem = s.mem ∧ (s.completeWalk w b).cells = s.cells ∧
    (s.completeWalk w b).ports = s.ports := by
  have h := State.answerPin_frame
  simp only [State.completeWalk]
  refine ⟨(by simp only [State.answerPin_frame]; exact (foldl_keeps State.pending _ (fun s a => by simp) _ _).trans (by simp)), (by simp only [State.answerPin_frame]; exact (foldl_keeps State.resetCount _ (fun s a => by simp) _ _).trans (by simp)), (by simp only [State.answerPin_frame]; exact (foldl_keeps State.service _ (fun s a => by simp) _ _).trans (by simp)), (by simp only [State.answerPin_frame]; exact (foldl_keeps State.restartMark _ (fun s a => by simp) _ _).trans (by simp)), (by simp only [State.answerPin_frame]; exact (foldl_keeps State.measure _ (fun s a => by simp) _ _).trans (by simp)), (by simp only [State.answerPin_frame]; exact (foldl_keeps State.ctx _ (fun s a => by simp) _ _).trans (by simp)), (by simp only [State.answerPin_frame]; exact (foldl_keeps State.settings _ (fun s a => by simp) _ _).trans (by simp)), (by simp only [State.answerPin_frame]; exact (foldl_keeps State.spill _ (fun s a => by simp) _ _).trans (by simp)), (by simp only [State.answerPin_frame]; exact (foldl_keeps State.time _ (fun s a => by simp) _ _).trans (by simp)), (by simp only [State.answerPin_frame]; exact (foldl_keeps State.headTime _ (fun s a => by simp) _ _).trans (by simp)), (by simp only [State.answerPin_frame]; exact (foldl_keeps State.mem _ (fun s a => by simp) _ _).trans (by simp)), (by simp only [State.answerPin_frame]; exact (foldl_keeps State.cells _ (fun s a => by simp) _ _).trans (by simp)), (by simp only [State.answerPin_frame]; exact (foldl_keeps State.ports _ (fun s a => by simp) _ _).trans (by simp))⟩

@[simp] theorem State.followLink_frame (s : State) (w : Walk) (b n : Nat) :
    (s.followLink w b n).pending = s.pending ∧ (s.followLink w b n).resetCount = s.resetCount ∧
    (s.followLink w b n).service = s.service ∧ (s.followLink w b n).restartMark = s.restartMark ∧
    (s.followLink w b n).measure = s.measure ∧ (s.followLink w b n).ctx = s.ctx ∧
    (s.followLink w b n).settings = s.settings ∧ (s.followLink w b n).spill = s.spill ∧
    (s.followLink w b n).time = s.time ∧ (s.followLink w b n).headTime = s.headTime ∧
    (s.followLink w b n).cells = s.cells ∧ (s.followLink w b n).ports = s.ports := by
  unfold State.followLink
  (repeat' split) <;> simp

@[simp] theorem State.walkData_frame (s : State) (r : WalkRead) (bs : List Byte) :
    (s.walkData r bs).pending = s.pending ∧ (s.walkData r bs).resetCount = s.resetCount ∧
    (s.walkData r bs).service = s.service ∧ (s.walkData r bs).restartMark = s.restartMark ∧
    (s.walkData r bs).measure = s.measure ∧ (s.walkData r bs).ctx = s.ctx ∧
    (s.walkData r bs).settings = s.settings ∧ (s.walkData r bs).spill = s.spill ∧
    (s.walkData r bs).time = s.time ∧ (s.walkData r bs).headTime = s.headTime ∧
    (s.walkData r bs).cells = s.cells ∧ (s.walkData r bs).ports = s.ports := by simp only [State.walkData]; (repeat' split) <;> simp

@[simp] theorem State.acceptSample_frame (s : State) (n : Head) (r : RawSample) :
    (s.acceptSample n r).pending = s.pending ∧ (s.acceptSample n r).resetCount = s.resetCount ∧
    (s.acceptSample n r).service = s.service ∧ (s.acceptSample n r).restartMark = s.restartMark ∧
    (s.acceptSample n r).measure = s.measure ∧ (s.acceptSample n r).settings = s.settings ∧
    (s.acceptSample n r).spill = s.spill ∧ (s.acceptSample n r).time = s.time ∧
    (s.acceptSample n r).headTime = s.headTime ∧ (s.acceptSample n r).cells = s.cells ∧
    (s.acceptSample n r).mgmt = s.mgmt := by simp [State.acceptSample]

@[simp] theorem State.takeSample_frame (s : State) (n : Head) (r : RawSample) :
    (s.takeSample n r).pending = s.pending ∧ (s.takeSample n r).resetCount = s.resetCount ∧
    (s.takeSample n r).service = s.service ∧ (s.takeSample n r).restartMark = s.restartMark ∧
    (s.takeSample n r).measure = s.measure ∧ (s.takeSample n r).settings = s.settings ∧
    (s.takeSample n r).spill = s.spill ∧ (s.takeSample n r).time = s.time ∧
    (s.takeSample n r).headTime = s.headTime ∧ (s.takeSample n r).cells = s.cells ∧
    (s.takeSample n r).mgmt = s.mgmt := by
  unfold State.takeSample
  (repeat' split) <;> simp

@[simp] theorem State.motionCommand_frame (s : State) (n : Head) :
    (s.motionCommand n).pending = s.pending ∧ (s.motionCommand n).freeCount = s.freeCount ∧
    (s.motionCommand n).resetCount = s.resetCount ∧ (s.motionCommand n).service = s.service ∧
    (s.motionCommand n).restartMark = s.restartMark ∧ (s.motionCommand n).headFaults = s.headFaults ∧
    (s.motionCommand n).partFault = s.partFault ∧ (s.motionCommand n).measure = s.measure ∧
    (s.motionCommand n).settings = s.settings ∧ (s.motionCommand n).lookup = s.lookup ∧
    (s.motionCommand n).waiting = s.waiting ∧ (s.motionCommand n).settle = s.settle ∧
    (s.motionCommand n).behind = s.behind ∧ (s.motionCommand n).capture = s.capture ∧
    (s.motionCommand n).spill = s.spill ∧ (s.motionCommand n).time = s.time ∧
    (s.motionCommand n).headTime = s.headTime ∧ (s.motionCommand n).mem = s.mem ∧
    (s.motionCommand n).cells = s.cells ∧ (s.motionCommand n).ports = s.ports ∧
    (s.motionCommand n).uplink = s.uplink ∧ (s.motionCommand n).mgmt = s.mgmt := by simp only [State.motionCommand]; split <;> simp

@[simp] theorem State.forwardDown_frame (s : State) (n : Head) (f : List Byte) :
    (s.forwardDown n f).pending = s.pending ∧ (s.forwardDown n f).freeCount = s.freeCount ∧
    (s.forwardDown n f).resetCount = s.resetCount ∧ (s.forwardDown n f).service = s.service ∧
    (s.forwardDown n f).restartMark = s.restartMark ∧ (s.forwardDown n f).headFaults = s.headFaults ∧
    (s.forwardDown n f).partFault = s.partFault ∧ (s.forwardDown n f).measure = s.measure ∧
    (s.forwardDown n f).settings = s.settings ∧ (s.forwardDown n f).lookup = s.lookup ∧
    (s.forwardDown n f).waiting = s.waiting ∧ (s.forwardDown n f).settle = s.settle ∧
    (s.forwardDown n f).behind = s.behind ∧ (s.forwardDown n f).capture = s.capture ∧
    (s.forwardDown n f).spill = s.spill ∧ (s.forwardDown n f).time = s.time ∧
    (s.forwardDown n f).headTime = s.headTime ∧ (s.forwardDown n f).mem = s.mem ∧
    (s.forwardDown n f).cells = s.cells ∧ (s.forwardDown n f).mgmt = s.mgmt := by simp only [State.forwardDown]; (repeat' split) <;> simp

@[simp] theorem State.routeHead_frame (s : State) (n : Head) (f : List Byte) :
    (s.routeHead n f).pending = s.pending ∧ (s.routeHead n f).resetCount = s.resetCount ∧
    (s.routeHead n f).service = s.service ∧ (s.routeHead n f).restartMark = s.restartMark ∧
    (s.routeHead n f).measure = s.measure ∧ (s.routeHead n f).settings = s.settings ∧
    (s.routeHead n f).spill = s.spill ∧ (s.routeHead n f).time = s.time ∧
    (s.routeHead n f).headTime = s.headTime ∧ (s.routeHead n f).cells = s.cells ∧
    (s.routeHead n f).mgmt = s.mgmt := by
  unfold State.routeHead
  (repeat' split) <;> simp

@[simp] theorem State.routeUplink_frame (s : State) (f : List Byte) :
    (s.routeUplink f).pending = s.pending ∧ (s.routeUplink f).freeCount = s.freeCount ∧
    (s.routeUplink f).resetCount = s.resetCount ∧ (s.routeUplink f).service = s.service ∧
    (s.routeUplink f).restartMark = s.restartMark ∧ (s.routeUplink f).headFaults = s.headFaults ∧
    (s.routeUplink f).partFault = s.partFault ∧ (s.routeUplink f).measure = s.measure ∧
    (s.routeUplink f).settings = s.settings ∧ (s.routeUplink f).lookup = s.lookup ∧
    (s.routeUplink f).waiting = s.waiting ∧ (s.routeUplink f).settle = s.settle ∧
    (s.routeUplink f).behind = s.behind ∧ (s.routeUplink f).capture = s.capture ∧
    (s.routeUplink f).spill = s.spill ∧ (s.routeUplink f).time = s.time ∧
    (s.routeUplink f).headTime = s.headTime ∧ (s.routeUplink f).mem = s.mem ∧ (s.routeUplink f).cells = s.cells ∧
    (s.routeUplink f).mgmt = s.mgmt := by
  unfold State.routeUplink
  (repeat' split) <;> simp

@[simp] theorem State.receive_frame (s : State) (p : Port) (f : List Byte) :
    (s.receive p f).pending = s.pending ∧ (s.receive p f).resetCount = s.resetCount ∧
    (s.receive p f).service = s.service ∧ (s.receive p f).restartMark = s.restartMark ∧
    (s.receive p f).measure = s.measure ∧ (s.receive p f).settings = s.settings ∧
    (s.receive p f).spill = s.spill ∧ (s.receive p f).time = s.time ∧ (s.receive p f).headTime = s.headTime ∧
    (s.receive p f).cells = s.cells ∧ (s.receive p f).mgmt = s.mgmt := by
  unfold State.receive State.route
  (repeat' split) <;> simp

@[simp] theorem State.keepInHand_frame (s : State) (tag : Byte) (w : Work) :
    (s.keepInHand tag w).pending = s.pending ∧ (s.keepInHand tag w).freeCount = s.freeCount ∧
    (s.keepInHand tag w).resetCount = s.resetCount ∧ (s.keepInHand tag w).service = s.service ∧
    (s.keepInHand tag w).restartMark = s.restartMark ∧ (s.keepInHand tag w).headFaults = s.headFaults ∧
    (s.keepInHand tag w).partFault = s.partFault ∧ (s.keepInHand tag w).measure = s.measure ∧
    (s.keepInHand tag w).ctx = s.ctx ∧ (s.keepInHand tag w).settings = s.settings ∧
    (s.keepInHand tag w).lookup = s.lookup ∧ (s.keepInHand tag w).waiting = s.waiting ∧
    (s.keepInHand tag w).settle = s.settle ∧ (s.keepInHand tag w).behind = s.behind ∧
    (s.keepInHand tag w).capture = s.capture ∧ (s.keepInHand tag w).spill = s.spill ∧
    (s.keepInHand tag w).time = s.time ∧ (s.keepInHand tag w).headTime = s.headTime ∧
    (s.keepInHand tag w).mem = s.mem ∧ (s.keepInHand tag w).cells = s.cells ∧
    (s.keepInHand tag w).report = s.report ∧ (s.keepInHand tag w).ports = s.ports ∧
    (s.keepInHand tag w).uplink = s.uplink := by simp [State.keepInHand]

@[simp] theorem State.answerRead_frame (s : State) (tag : Byte) (k : Nat) (d : Option (List Byte)) :
    (s.answerRead tag k d).pending = s.pending ∧ (s.answerRead tag k d).freeCount = s.freeCount ∧
    (s.answerRead tag k d).resetCount = s.resetCount ∧ (s.answerRead tag k d).service = s.service ∧
    (s.answerRead tag k d).restartMark = s.restartMark ∧ (s.answerRead tag k d).headFaults = s.headFaults ∧
    (s.answerRead tag k d).partFault = s.partFault ∧ (s.answerRead tag k d).measure = s.measure ∧
    (s.answerRead tag k d).ctx = s.ctx ∧ (s.answerRead tag k d).settings = s.settings ∧
    (s.answerRead tag k d).lookup = s.lookup ∧ (s.answerRead tag k d).waiting = s.waiting ∧
    (s.answerRead tag k d).settle = s.settle ∧ (s.answerRead tag k d).behind = s.behind ∧
    (s.answerRead tag k d).capture = s.capture ∧ (s.answerRead tag k d).spill = s.spill ∧
    (s.answerRead tag k d).time = s.time ∧ (s.answerRead tag k d).headTime = s.headTime ∧
    (s.answerRead tag k d).mem = s.mem ∧ (s.answerRead tag k d).cells = s.cells ∧
    (s.answerRead tag k d).ports = s.ports := by
  unfold State.answerRead
  (repeat' split) <;> simp

@[simp] theorem State.storePose_frame (s : State) (n : Head) (p : Rotation × Vec3) :
    (s.storePose n p).pending = s.pending ∧ (s.storePose n p).freeCount = s.freeCount ∧
    (s.storePose n p).resetCount = s.resetCount ∧ (s.storePose n p).service = s.service ∧
    (s.storePose n p).restartMark = s.restartMark ∧ (s.storePose n p).headFaults = s.headFaults ∧
    (s.storePose n p).partFault = s.partFault ∧ (s.storePose n p).ctx = s.ctx ∧
    (s.storePose n p).settings = s.settings ∧ (s.storePose n p).lookup = s.lookup ∧
    (s.storePose n p).waiting = s.waiting ∧ (s.storePose n p).spill = s.spill ∧ (s.storePose n p).time = s.time ∧
    (s.storePose n p).headTime = s.headTime ∧ (s.storePose n p).mem = s.mem ∧ (s.storePose n p).cells = s.cells ∧
    (s.storePose n p).ports = s.ports ∧ (s.storePose n p).mgmt = s.mgmt := by simp [State.storePose]

@[simp] theorem State.applyTable_frame (s : State) (b c h : Nat) :
    (s.applyTable b c h).pending = s.pending ∧ (s.applyTable b c h).resetCount = s.resetCount ∧
    (s.applyTable b c h).service = s.service ∧ (s.applyTable b c h).restartMark = s.restartMark ∧
    (s.applyTable b c h).measure = s.measure ∧ (s.applyTable b c h).ctx = s.ctx ∧
    (s.applyTable b c h).settings = s.settings ∧ (s.applyTable b c h).spill = s.spill ∧
    (s.applyTable b c h).time = s.time ∧ (s.applyTable b c h).headTime = s.headTime ∧
    (s.applyTable b c h).mem = s.mem ∧ (s.applyTable b c h).cells = s.cells ∧
    (s.applyTable b c h).ports = s.ports ∧ (s.applyTable b c h).mgmt = s.mgmt := by
  simp only [State.applyTable, State.finishAllLate_frame]
  refine ⟨(foldl_keeps State.pending _ (fun s a => by simp) _ _).trans (by simp), (foldl_keeps State.resetCount _ (fun s a => by simp) _ _).trans (by simp), (foldl_keeps State.service _ (fun s a => by simp) _ _).trans (by simp), (foldl_keeps State.restartMark _ (fun s a => by simp) _ _).trans (by simp), (foldl_keeps State.measure _ (fun s a => by simp) _ _).trans (by simp), (foldl_keeps State.ctx _ (fun s a => by simp) _ _).trans (by simp), (foldl_keeps State.settings _ (fun s a => by simp) _ _).trans (by simp), (foldl_keeps State.spill _ (fun s a => by simp) _ _).trans (by simp), (foldl_keeps State.time _ (fun s a => by simp) _ _).trans (by simp), (foldl_keeps State.headTime _ (fun s a => by simp) _ _).trans (by simp), (foldl_keeps State.mem _ (fun s a => by simp) _ _).trans (by simp), (foldl_keeps State.cells _ (fun s a => by simp) _ _).trans (by simp), (foldl_keeps State.ports _ (fun s a => by simp) _ _).trans (by simp), (foldl_keeps State.mgmt _ (fun s a => by simp) _ _).trans (by simp)⟩

@[simp] theorem State.purgeKey_frame (s : State) (k : CellKey) :
    (s.purgeKey k).pending = s.pending ∧ (s.purgeKey k).freeCount = s.freeCount ∧
    (s.purgeKey k).resetCount = s.resetCount ∧ (s.purgeKey k).service = s.service ∧
    (s.purgeKey k).restartMark = s.restartMark ∧ (s.purgeKey k).headFaults = s.headFaults ∧
    (s.purgeKey k).partFault = s.partFault ∧ (s.purgeKey k).measure = s.measure ∧ (s.purgeKey k).ctx = s.ctx ∧
    (s.purgeKey k).settings = s.settings ∧ (s.purgeKey k).waiting = s.waiting ∧ (s.purgeKey k).settle = s.settle ∧
    (s.purgeKey k).behind = s.behind ∧ (s.purgeKey k).capture = s.capture ∧ (s.purgeKey k).spill = s.spill ∧
    (s.purgeKey k).time = s.time ∧ (s.purgeKey k).headTime = s.headTime ∧ (s.purgeKey k).cells = s.cells ∧
    (s.purgeKey k).report = s.report ∧ (s.purgeKey k).ports = s.ports ∧ (s.purgeKey k).uplink = s.uplink ∧
    (s.purgeKey k).mgmt = s.mgmt := by simp only [State.purgeKey]; split <;> simp

@[simp] theorem State.purgeEvery_frame (s : State) :
    (s.purgeEvery).pending = s.pending ∧ (s.purgeEvery).freeCount = s.freeCount ∧
    (s.purgeEvery).resetCount = s.resetCount ∧ (s.purgeEvery).service = s.service ∧
    (s.purgeEvery).restartMark = s.restartMark ∧ (s.purgeEvery).headFaults = s.headFaults ∧
    (s.purgeEvery).partFault = s.partFault ∧ (s.purgeEvery).measure = s.measure ∧ (s.purgeEvery).ctx = s.ctx ∧
    (s.purgeEvery).settings = s.settings ∧ (s.purgeEvery).waiting = s.waiting ∧ (s.purgeEvery).settle = s.settle ∧
    (s.purgeEvery).behind = s.behind ∧ (s.purgeEvery).capture = s.capture ∧ (s.purgeEvery).spill = s.spill ∧
    (s.purgeEvery).time = s.time ∧ (s.purgeEvery).headTime = s.headTime ∧ (s.purgeEvery).cells = s.cells ∧
    (s.purgeEvery).report = s.report ∧ (s.purgeEvery).ports = s.ports ∧ (s.purgeEvery).uplink = s.uplink ∧
    (s.purgeEvery).mgmt = s.mgmt := by
  simp only [State.purgeEvery]
  refine ⟨(foldl_keeps State.pending _ (fun s a => by simp) _ _).trans (by simp), (foldl_keeps State.freeCount _ (fun s a => by simp) _ _).trans (by simp), (foldl_keeps State.resetCount _ (fun s a => by simp) _ _).trans (by simp), (foldl_keeps State.service _ (fun s a => by simp) _ _).trans (by simp), (foldl_keeps State.restartMark _ (fun s a => by simp) _ _).trans (by simp), (foldl_keeps State.headFaults _ (fun s a => by simp) _ _).trans (by simp), (foldl_keeps State.partFault _ (fun s a => by simp) _ _).trans (by simp), (foldl_keeps State.measure _ (fun s a => by simp) _ _).trans (by simp), (foldl_keeps State.ctx _ (fun s a => by simp) _ _).trans (by simp), (foldl_keeps State.settings _ (fun s a => by simp) _ _).trans (by simp), (foldl_keeps State.waiting _ (fun s a => by simp) _ _).trans (by simp), (foldl_keeps State.settle _ (fun s a => by simp) _ _).trans (by simp), (foldl_keeps State.behind _ (fun s a => by simp) _ _).trans (by simp), (foldl_keeps State.capture _ (fun s a => by simp) _ _).trans (by simp), (foldl_keeps State.spill _ (fun s a => by simp) _ _).trans (by simp), (foldl_keeps State.time _ (fun s a => by simp) _ _).trans (by simp), (foldl_keeps State.headTime _ (fun s a => by simp) _ _).trans (by simp), (foldl_keeps State.cells _ (fun s a => by simp) _ _).trans (by simp), (foldl_keeps State.report _ (fun s a => by simp) _ _).trans (by simp), (foldl_keeps State.ports _ (fun s a => by simp) _ _).trans (by simp), (foldl_keeps State.uplink _ (fun s a => by simp) _ _).trans (by simp), (foldl_keeps State.mgmt _ (fun s a => by simp) _ _).trans (by simp)⟩

@[simp] theorem State.pinKey_frame (s : State) (tag : Byte) (k : CellKey) :
    (s.pinKey tag k).pending = s.pending ∧ (s.pinKey tag k).freeCount = s.freeCount ∧
    (s.pinKey tag k).resetCount = s.resetCount ∧ (s.pinKey tag k).service = s.service ∧
    (s.pinKey tag k).restartMark = s.restartMark ∧ (s.pinKey tag k).headFaults = s.headFaults ∧
    (s.pinKey tag k).partFault = s.partFault ∧ (s.pinKey tag k).measure = s.measure ∧
    (s.pinKey tag k).ctx = s.ctx ∧ (s.pinKey tag k).settings = s.settings ∧ (s.pinKey tag k).waiting = s.waiting ∧
    (s.pinKey tag k).settle = s.settle ∧ (s.pinKey tag k).behind = s.behind ∧
    (s.pinKey tag k).capture = s.capture ∧ (s.pinKey tag k).spill = s.spill ∧ (s.pinKey tag k).time = s.time ∧
    (s.pinKey tag k).headTime = s.headTime ∧ (s.pinKey tag k).cells = s.cells ∧ (s.pinKey tag k).ports = s.ports := by simp only [State.pinKey]; split <;> simp

@[simp] theorem State.unpinWalk_frame (s : State) (w : Walk) :
    (s.unpinWalk w).pending = s.pending ∧ (s.unpinWalk w).freeCount = s.freeCount ∧
    (s.unpinWalk w).resetCount = s.resetCount ∧ (s.unpinWalk w).service = s.service ∧
    (s.unpinWalk w).restartMark = s.restartMark ∧ (s.unpinWalk w).headFaults = s.headFaults ∧
    (s.unpinWalk w).partFault = s.partFault ∧ (s.unpinWalk w).measure = s.measure ∧ (s.unpinWalk w).ctx = s.ctx ∧
    (s.unpinWalk w).settings = s.settings ∧ (s.unpinWalk w).waiting = s.waiting ∧
    (s.unpinWalk w).settle = s.settle ∧ (s.unpinWalk w).behind = s.behind ∧ (s.unpinWalk w).capture = s.capture ∧
    (s.unpinWalk w).spill = s.spill ∧ (s.unpinWalk w).time = s.time ∧ (s.unpinWalk w).headTime = s.headTime ∧
    (s.unpinWalk w).mem = s.mem ∧ (s.unpinWalk w).cells = s.cells ∧ (s.unpinWalk w).report = s.report ∧
    (s.unpinWalk w).ports = s.ports ∧ (s.unpinWalk w).uplink = s.uplink ∧ (s.unpinWalk w).mgmt = s.mgmt := by simp only [State.unpinWalk]; split <;> simp

@[simp] theorem State.unpinKey_frame (s : State) (k : CellKey) :
    (s.unpinKey k).pending = s.pending ∧ (s.unpinKey k).freeCount = s.freeCount ∧
    (s.unpinKey k).resetCount = s.resetCount ∧ (s.unpinKey k).service = s.service ∧
    (s.unpinKey k).restartMark = s.restartMark ∧ (s.unpinKey k).headFaults = s.headFaults ∧
    (s.unpinKey k).partFault = s.partFault ∧ (s.unpinKey k).measure = s.measure ∧ (s.unpinKey k).ctx = s.ctx ∧
    (s.unpinKey k).settings = s.settings ∧ (s.unpinKey k).waiting = s.waiting ∧ (s.unpinKey k).settle = s.settle ∧
    (s.unpinKey k).behind = s.behind ∧ (s.unpinKey k).capture = s.capture ∧ (s.unpinKey k).spill = s.spill ∧
    (s.unpinKey k).time = s.time ∧ (s.unpinKey k).headTime = s.headTime ∧ (s.unpinKey k).mem = s.mem ∧
    (s.unpinKey k).cells = s.cells ∧ (s.unpinKey k).report = s.report ∧ (s.unpinKey k).ports = s.ports ∧
    (s.unpinKey k).uplink = s.uplink ∧ (s.unpinKey k).mgmt = s.mgmt := by simp only [State.unpinKey]; (repeat' split) <;> simp

@[simp] theorem State.ownPointWrite_frame (s : State) (tag : Byte) (w : PointWrite) (a : PointState) :
    (s.ownPointWrite tag w a).pending = s.pending ∧ (s.ownPointWrite tag w a).freeCount = s.freeCount ∧
    (s.ownPointWrite tag w a).resetCount = s.resetCount ∧ (s.ownPointWrite tag w a).service = s.service ∧
    (s.ownPointWrite tag w a).restartMark = s.restartMark ∧ (s.ownPointWrite tag w a).headFaults = s.headFaults ∧
    (s.ownPointWrite tag w a).partFault = s.partFault ∧ (s.ownPointWrite tag w a).measure = s.measure ∧
    (s.ownPointWrite tag w a).ctx = s.ctx ∧ (s.ownPointWrite tag w a).settings = s.settings ∧
    (s.ownPointWrite tag w a).waiting = s.waiting ∧ (s.ownPointWrite tag w a).settle = s.settle ∧
    (s.ownPointWrite tag w a).behind = s.behind ∧ (s.ownPointWrite tag w a).capture = s.capture ∧
    (s.ownPointWrite tag w a).spill = s.spill ∧ (s.ownPointWrite tag w a).time = s.time ∧
    (s.ownPointWrite tag w a).headTime = s.headTime ∧ (s.ownPointWrite tag w a).cells = s.cells ∧
    (s.ownPointWrite tag w a).report = s.report ∧ (s.ownPointWrite tag w a).ports = s.ports ∧
    (s.ownPointWrite tag w a).uplink = s.uplink := by simp [State.ownPointWrite, State.updatePoints]

@[simp] theorem State.takePointState_frame (s : State) (tag : Byte) (b : Nat) (sl : Slot) (a : PointState) :
    (s.takePointState tag b sl a).pending = s.pending ∧ (s.takePointState tag b sl a).freeCount = s.freeCount ∧
    (s.takePointState tag b sl a).resetCount = s.resetCount ∧ (s.takePointState tag b sl a).service = s.service ∧
    (s.takePointState tag b sl a).restartMark = s.restartMark ∧
    (s.takePointState tag b sl a).headFaults = s.headFaults ∧
    (s.takePointState tag b sl a).partFault = s.partFault ∧ (s.takePointState tag b sl a).measure = s.measure ∧
    (s.takePointState tag b sl a).ctx = s.ctx ∧ (s.takePointState tag b sl a).settings = s.settings ∧
    (s.takePointState tag b sl a).waiting = s.waiting ∧ (s.takePointState tag b sl a).settle = s.settle ∧
    (s.takePointState tag b sl a).behind = s.behind ∧ (s.takePointState tag b sl a).spill = s.spill ∧
    (s.takePointState tag b sl a).time = s.time ∧ (s.takePointState tag b sl a).headTime = s.headTime ∧
    (s.takePointState tag b sl a).cells = s.cells ∧ (s.takePointState tag b sl a).ports = s.ports := by
  simp only [State.takePointState]
  (repeat' split) <;> simp [State.updatePoints, State.mergeEntry]

@[simp] theorem State.completePointWrite_frame (s : State) (w : PointWrite) :
    (s.completePointWrite w).pending = s.pending ∧ (s.completePointWrite w).freeCount = s.freeCount ∧
    (s.completePointWrite w).resetCount = s.resetCount ∧ (s.completePointWrite w).service = s.service ∧
    (s.completePointWrite w).restartMark = s.restartMark ∧ (s.completePointWrite w).headFaults = s.headFaults ∧
    (s.completePointWrite w).partFault = s.partFault ∧ (s.completePointWrite w).measure = s.measure ∧
    (s.completePointWrite w).ctx = s.ctx ∧ (s.completePointWrite w).settings = s.settings ∧
    (s.completePointWrite w).waiting = s.waiting ∧ (s.completePointWrite w).settle = s.settle ∧
    (s.completePointWrite w).behind = s.behind ∧ (s.completePointWrite w).capture = s.capture ∧
    (s.completePointWrite w).spill = s.spill ∧ (s.completePointWrite w).time = s.time ∧
    (s.completePointWrite w).headTime = s.headTime ∧ (s.completePointWrite w).report = s.report ∧
    (s.completePointWrite w).ports = s.ports ∧ (s.completePointWrite w).uplink = s.uplink ∧
    (s.completePointWrite w).mgmt = s.mgmt := by simp [State.completePointWrite]

@[simp] theorem State.enableHead_frame (s : State) (n : Head) :
    (s.enableHead n).pending = s.pending ∧ (s.enableHead n).freeCount = s.freeCount ∧
    (s.enableHead n).resetCount = s.resetCount ∧ (s.enableHead n).service = s.service ∧
    (s.enableHead n).restartMark = s.restartMark ∧ (s.enableHead n).headFaults = s.headFaults ∧
    (s.enableHead n).partFault = s.partFault ∧ (s.enableHead n).measure = s.measure ∧
    (s.enableHead n).settings = s.settings ∧ (s.enableHead n).lookup = s.lookup ∧
    (s.enableHead n).waiting = s.waiting ∧ (s.enableHead n).settle = s.settle ∧
    (s.enableHead n).behind = s.behind ∧ (s.enableHead n).capture = s.capture ∧ (s.enableHead n).spill = s.spill ∧
    (s.enableHead n).time = s.time ∧ (s.enableHead n).headTime = s.headTime ∧ (s.enableHead n).mem = s.mem ∧
    (s.enableHead n).cells = s.cells ∧ (s.enableHead n).ports = s.ports ∧ (s.enableHead n).uplink = s.uplink ∧
    (s.enableHead n).mgmt = s.mgmt := by simp only [State.enableHead]; split <;> simp

@[simp] theorem State.disableHead_frame (s : State) (n : Head) :
    (s.disableHead n).pending = s.pending ∧ (s.disableHead n).freeCount = s.freeCount ∧
    (s.disableHead n).resetCount = s.resetCount ∧ (s.disableHead n).service = s.service ∧
    (s.disableHead n).restartMark = s.restartMark ∧ (s.disableHead n).headFaults = s.headFaults ∧
    (s.disableHead n).partFault = s.partFault ∧ (s.disableHead n).measure = s.measure ∧
    (s.disableHead n).settings = s.settings ∧ (s.disableHead n).lookup = s.lookup ∧
    (s.disableHead n).waiting = s.waiting ∧ (s.disableHead n).settle = s.settle ∧
    (s.disableHead n).behind = s.behind ∧ (s.disableHead n).capture = s.capture ∧
    (s.disableHead n).spill = s.spill ∧ (s.disableHead n).time = s.time ∧ (s.disableHead n).mem = s.mem ∧
    (s.disableHead n).cells = s.cells ∧ (s.disableHead n).ports = s.ports ∧ (s.disableHead n).uplink = s.uplink ∧
    (s.disableHead n).mgmt = s.mgmt := by simp only [State.disableHead]; split <;> simp

@[simp] theorem State.enterHold_frame (s : State) :
    (s.enterHold).pending = s.pending ∧ (s.enterHold).freeCount = s.freeCount ∧
    (s.enterHold).resetCount = s.resetCount ∧ (s.enterHold).restartMark = s.restartMark ∧
    (s.enterHold).headFaults = s.headFaults ∧ (s.enterHold).partFault = s.partFault ∧
    (s.enterHold).measure = s.measure ∧ (s.enterHold).ctx = s.ctx ∧ (s.enterHold).settings = s.settings ∧
    (s.enterHold).lookup = s.lookup ∧ (s.enterHold).waiting = s.waiting ∧ (s.enterHold).spill = s.spill ∧
    (s.enterHold).time = s.time ∧ (s.enterHold).headTime = s.headTime ∧ (s.enterHold).mem = s.mem ∧
    (s.enterHold).cells = s.cells ∧ (s.enterHold).ports = s.ports ∧ (s.enterHold).mgmt = s.mgmt := by simp [State.enterHold, State.setService]

@[simp] theorem State.enterQuiescing_frame (s : State) :
    (s.enterQuiescing).pending = s.pending ∧ (s.enterQuiescing).resetCount = s.resetCount ∧
    (s.enterQuiescing).restartMark = s.restartMark ∧ (s.enterQuiescing).measure = s.measure ∧
    (s.enterQuiescing).settings = s.settings ∧ (s.enterQuiescing).lookup = s.lookup ∧
    (s.enterQuiescing).spill = s.spill ∧ (s.enterQuiescing).time = s.time ∧
    (s.enterQuiescing).headTime = s.headTime ∧ (s.enterQuiescing).cells = s.cells ∧
    (s.enterQuiescing).mgmt = s.mgmt := by simp [State.enterQuiescing, State.setService, State.setQuiesce, allHeads]

@[simp] theorem State.beginDrain_frame (s : State) :
    (s.beginDrain).pending = s.pending ∧ (s.beginDrain).resetCount = s.resetCount ∧
    (s.beginDrain).service = s.service ∧ (s.beginDrain).measure = s.measure ∧ (s.beginDrain).ctx = s.ctx ∧
    (s.beginDrain).settings = s.settings ∧ (s.beginDrain).lookup = s.lookup ∧ (s.beginDrain).spill = s.spill ∧
    (s.beginDrain).time = s.time ∧ (s.beginDrain).headTime = s.headTime ∧ (s.beginDrain).mem = s.mem ∧
    (s.beginDrain).cells = s.cells ∧ (s.beginDrain).ports = s.ports ∧ (s.beginDrain).mgmt = s.mgmt := by simp [State.beginDrain]

@[simp] theorem State.completeWriteback_frame (s : State) (e : WbEntry) :
    (s.completeWriteback e).pending = s.pending ∧ (s.completeWriteback e).freeCount = s.freeCount ∧
    (s.completeWriteback e).resetCount = s.resetCount ∧ (s.completeWriteback e).service = s.service ∧
    (s.completeWriteback e).restartMark = s.restartMark ∧ (s.completeWriteback e).headFaults = s.headFaults ∧
    (s.completeWriteback e).partFault = s.partFault ∧ (s.completeWriteback e).measure = s.measure ∧
    (s.completeWriteback e).ctx = s.ctx ∧ (s.completeWriteback e).settings = s.settings ∧
    (s.completeWriteback e).lookup = s.lookup ∧ (s.completeWriteback e).waiting = s.waiting ∧
    (s.completeWriteback e).settle = s.settle ∧ (s.completeWriteback e).behind = s.behind ∧
    (s.completeWriteback e).spill = s.spill ∧ (s.completeWriteback e).time = s.time ∧
    (s.completeWriteback e).headTime = s.headTime ∧ (s.completeWriteback e).mem = s.mem ∧
    (s.completeWriteback e).report = s.report ∧ (s.completeWriteback e).ports = s.ports ∧
    (s.completeWriteback e).uplink = s.uplink ∧ (s.completeWriteback e).mgmt = s.mgmt := by simp [State.completeWriteback]

@[simp] theorem State.completeSpillWrite_frame (s : State) (w : SpillWrite) :
    (s.completeSpillWrite w).pending = s.pending ∧ (s.completeSpillWrite w).freeCount = s.freeCount ∧
    (s.completeSpillWrite w).resetCount = s.resetCount ∧ (s.completeSpillWrite w).service = s.service ∧
    (s.completeSpillWrite w).restartMark = s.restartMark ∧ (s.completeSpillWrite w).headFaults = s.headFaults ∧
    (s.completeSpillWrite w).partFault = s.partFault ∧ (s.completeSpillWrite w).measure = s.measure ∧
    (s.completeSpillWrite w).ctx = s.ctx ∧ (s.completeSpillWrite w).settings = s.settings ∧
    (s.completeSpillWrite w).lookup = s.lookup ∧ (s.completeSpillWrite w).waiting = s.waiting ∧
    (s.completeSpillWrite w).settle = s.settle ∧ (s.completeSpillWrite w).behind = s.behind ∧
    (s.completeSpillWrite w).capture = s.capture ∧ (s.completeSpillWrite w).time = s.time ∧
    (s.completeSpillWrite w).headTime = s.headTime ∧ (s.completeSpillWrite w).mem = s.mem ∧
    (s.completeSpillWrite w).report = s.report ∧ (s.completeSpillWrite w).ports = s.ports ∧
    (s.completeSpillWrite w).uplink = s.uplink ∧ (s.completeSpillWrite w).mgmt = s.mgmt := by simp [State.completeSpillWrite]

@[simp] theorem State.startDrain_frame (s : State) :
    (s.startDrain).pending = s.pending ∧ (s.startDrain).freeCount = s.freeCount ∧
    (s.startDrain).resetCount = s.resetCount ∧ (s.startDrain).service = s.service ∧
    (s.startDrain).restartMark = s.restartMark ∧ (s.startDrain).headFaults = s.headFaults ∧
    (s.startDrain).partFault = s.partFault ∧ (s.startDrain).measure = s.measure ∧ (s.startDrain).ctx = s.ctx ∧
    (s.startDrain).settings = s.settings ∧ (s.startDrain).lookup = s.lookup ∧ (s.startDrain).waiting = s.waiting ∧
    (s.startDrain).settle = s.settle ∧ (s.startDrain).behind = s.behind ∧ (s.startDrain).capture = s.capture ∧
    (s.startDrain).time = s.time ∧ (s.startDrain).headTime = s.headTime ∧ (s.startDrain).cells = s.cells ∧
    (s.startDrain).ports = s.ports ∧ (s.startDrain).uplink = s.uplink ∧ (s.startDrain).mgmt = s.mgmt := by simp [State.startDrain]

@[simp] theorem State.releaseDrain_frame (s : State) (bs : List Byte) (r : List Drain) :
    (s.releaseDrain bs r).pending = s.pending ∧ (s.releaseDrain bs r).freeCount = s.freeCount ∧
    (s.releaseDrain bs r).resetCount = s.resetCount ∧ (s.releaseDrain bs r).service = s.service ∧
    (s.releaseDrain bs r).restartMark = s.restartMark ∧ (s.releaseDrain bs r).headFaults = s.headFaults ∧
    (s.releaseDrain bs r).partFault = s.partFault ∧ (s.releaseDrain bs r).measure = s.measure ∧
    (s.releaseDrain bs r).ctx = s.ctx ∧ (s.releaseDrain bs r).settings = s.settings ∧
    (s.releaseDrain bs r).lookup = s.lookup ∧ (s.releaseDrain bs r).waiting = s.waiting ∧
    (s.releaseDrain bs r).settle = s.settle ∧ (s.releaseDrain bs r).behind = s.behind ∧
    (s.releaseDrain bs r).capture = s.capture ∧ (s.releaseDrain bs r).time = s.time ∧
    (s.releaseDrain bs r).headTime = s.headTime ∧ (s.releaseDrain bs r).mem = s.mem ∧
    (s.releaseDrain bs r).cells = s.cells ∧ (s.releaseDrain bs r).ports = s.ports ∧
    (s.releaseDrain bs r).mgmt = s.mgmt := by simp [State.releaseDrain]

@[simp] theorem State.releaseDrains_frame (s : State) (ds : List Drain) :
    (s.releaseDrains ds).pending = s.pending ∧ (s.releaseDrains ds).freeCount = s.freeCount ∧
    (s.releaseDrains ds).resetCount = s.resetCount ∧ (s.releaseDrains ds).service = s.service ∧
    (s.releaseDrains ds).restartMark = s.restartMark ∧ (s.releaseDrains ds).headFaults = s.headFaults ∧
    (s.releaseDrains ds).partFault = s.partFault ∧ (s.releaseDrains ds).measure = s.measure ∧
    (s.releaseDrains ds).ctx = s.ctx ∧ (s.releaseDrains ds).settings = s.settings ∧
    (s.releaseDrains ds).lookup = s.lookup ∧ (s.releaseDrains ds).waiting = s.waiting ∧
    (s.releaseDrains ds).settle = s.settle ∧ (s.releaseDrains ds).behind = s.behind ∧
    (s.releaseDrains ds).capture = s.capture ∧ (s.releaseDrains ds).time = s.time ∧
    (s.releaseDrains ds).headTime = s.headTime ∧ (s.releaseDrains ds).mem = s.mem ∧
    (s.releaseDrains ds).cells = s.cells ∧ (s.releaseDrains ds).ports = s.ports ∧
    (s.releaseDrains ds).mgmt = s.mgmt := by
  induction ds generalizing s with
  | nil => simp [State.releaseDrains]
  | cons d ds ih =>
    obtain ⟨pos, data⟩ := d
    cases data with
    | none => simp [State.releaseDrains]
    | some bs =>
      have h := ih (s.releaseDrain bs ds)
      simp only [State.releaseDrain_frame] at h
      simpa only [State.releaseDrains] using h

@[simp] theorem State.completeDrainRead_frame (s : State) (pos : Nat) (bs : List Byte) :
    (s.completeDrainRead pos bs).pending = s.pending ∧ (s.completeDrainRead pos bs).freeCount = s.freeCount ∧
    (s.completeDrainRead pos bs).resetCount = s.resetCount ∧ (s.completeDrainRead pos bs).service = s.service ∧
    (s.completeDrainRead pos bs).restartMark = s.restartMark ∧
    (s.completeDrainRead pos bs).headFaults = s.headFaults ∧
    (s.completeDrainRead pos bs).partFault = s.partFault ∧ (s.completeDrainRead pos bs).measure = s.measure ∧
    (s.completeDrainRead pos bs).ctx = s.ctx ∧ (s.completeDrainRead pos bs).settings = s.settings ∧
    (s.completeDrainRead pos bs).lookup = s.lookup ∧ (s.completeDrainRead pos bs).waiting = s.waiting ∧
    (s.completeDrainRead pos bs).settle = s.settle ∧ (s.completeDrainRead pos bs).behind = s.behind ∧
    (s.completeDrainRead pos bs).capture = s.capture ∧ (s.completeDrainRead pos bs).time = s.time ∧
    (s.completeDrainRead pos bs).headTime = s.headTime ∧ (s.completeDrainRead pos bs).mem = s.mem ∧
    (s.completeDrainRead pos bs).cells = s.cells ∧ (s.completeDrainRead pos bs).ports = s.ports ∧
    (s.completeDrainRead pos bs).mgmt = s.mgmt := by simp [State.completeDrainRead]

@[simp] theorem State.takeSlot_frame (s : State) (k : Option Head) (h : HeldEvent) :
    (s.takeSlot k h).pending = s.pending ∧ (s.takeSlot k h).freeCount = s.freeCount ∧
    (s.takeSlot k h).resetCount = s.resetCount ∧ (s.takeSlot k h).service = s.service ∧
    (s.takeSlot k h).restartMark = s.restartMark ∧ (s.takeSlot k h).headFaults = s.headFaults ∧
    (s.takeSlot k h).partFault = s.partFault ∧ (s.takeSlot k h).measure = s.measure ∧
    (s.takeSlot k h).ctx = s.ctx ∧ (s.takeSlot k h).settings = s.settings ∧ (s.takeSlot k h).lookup = s.lookup ∧
    (s.takeSlot k h).waiting = s.waiting ∧ (s.takeSlot k h).settle = s.settle ∧
    (s.takeSlot k h).behind = s.behind ∧ (s.takeSlot k h).capture = s.capture ∧ (s.takeSlot k h).spill = s.spill ∧
    (s.takeSlot k h).time = s.time ∧ (s.takeSlot k h).headTime = s.headTime ∧ (s.takeSlot k h).mem = s.mem ∧
    (s.takeSlot k h).cells = s.cells ∧ (s.takeSlot k h).ports = s.ports ∧ (s.takeSlot k h).mgmt = s.mgmt := by simp [State.takeSlot]

@[simp] theorem State.leaveSource_frame (s : State) (x : TxSource) :
    (s.leaveSource x).pending = s.pending ∧ (s.leaveSource x).freeCount = s.freeCount ∧
    (s.leaveSource x).resetCount = s.resetCount ∧ (s.leaveSource x).service = s.service ∧
    (s.leaveSource x).restartMark = s.restartMark ∧ (s.leaveSource x).headFaults = s.headFaults ∧
    (s.leaveSource x).partFault = s.partFault ∧ (s.leaveSource x).measure = s.measure ∧
    (s.leaveSource x).ctx = s.ctx ∧ (s.leaveSource x).settings = s.settings ∧
    (s.leaveSource x).lookup = s.lookup ∧ (s.leaveSource x).waiting = s.waiting ∧
    (s.leaveSource x).settle = s.settle ∧ (s.leaveSource x).behind = s.behind ∧
    (s.leaveSource x).capture = s.capture ∧ (s.leaveSource x).spill = s.spill ∧ (s.leaveSource x).time = s.time ∧
    (s.leaveSource x).headTime = s.headTime ∧ (s.leaveSource x).mem = s.mem ∧ (s.leaveSource x).cells = s.cells ∧
    (s.leaveSource x).ports = s.ports ∧ (s.leaveSource x).mgmt = s.mgmt := by cases x <;> simp [State.leaveSource]

end Sys2Proof.Machine
end

