-- ==== Sys2Proof/Laws/Answers.lean ====
section
/-! SUPPORT. Answers: what giving one does to the report queue, the held answer and the uplink, and how a command that gives
one meets the term Safety.Answers. -/

namespace Sys2Proof.Machine
open Sys2Proof

/-- An idle or busy uplink that chooses changes only what it sends, the report tag and the last-served mark. -/
theorem State.kickUplink_uplink (s : State) (x : Uplink) :
    { s.kickUplink.uplink with
      requests := x.requests, sending := x.sending, reportTag := x.reportTag, servedReport := x.servedReport } =
    { s.uplink with
      requests := x.requests, sending := x.sending, reportTag := x.reportTag, servedReport := x.servedReport } := by
  simp only [State.kickUplink, Uplink.choose]
  (repeat' split) <;> simp [Uplink.sendReport, Uplink.sendForward]

/-- A choosing uplink keeps its request buffer. -/
@[simp] theorem State.kickUplink_requests (s : State) : s.kickUplink.uplink.requests = s.uplink.requests := by
  simp only [State.kickUplink, Uplink.choose]
  (repeat' split) <;> simp [Uplink.sendReport, Uplink.sendForward]

/-- A crossing changes only the decimations and the part slot. -/
theorem State.redecimate_report (s : State) (f : Decimation → Decimation) (b : Bool) (x : Report) :
    { (s.redecimate f b).report with decimation := x.decimation, partSlot := x.partSlot } =
    { s.report with decimation := x.decimation, partSlot := x.partSlot } := by
  simp only [State.redecimate]
  split
  · rfl
  · simp [State.placeEvent, Report.setSlot]

/-- A rise of the occupancy changes only the decimations and the part slot, and those only at the 36th place (R162). -/
theorem State.afterRise_report (s : State) (x : Report) :
    { s.afterRise.report with decimation := x.decimation, partSlot := x.partSlot } =
    { s.report with decimation := x.decimation, partSlot := x.partSlot } := by
  unfold State.afterRise; split
  · exact State.redecimate_report _ _ _ _
  · rfl

@[simp] theorem State.afterRise_queue (s : State) : s.afterRise.report.queue = s.report.queue :=
  by
  have := congrArg Report.queue (State.afterRise_report s s.report); simpa using this

@[simp] theorem State.afterRise_reserved (s : State) : s.afterRise.report.reserved = s.report.reserved :=
  by
  have := congrArg Report.reserved (State.afterRise_report s s.report); simpa using this

/-- A frame that enters joins at the newest end (R158). -/
@[simp] theorem State.enqueue_queue (s : State) (f : ReportFrame) : (s.enqueue f).report.queue = s.report.queue ++ [f] := by
  simp [State.enqueue]

@[simp] theorem State.enqueue_reserved (s : State) (f : ReportFrame) : (s.enqueue f).report.reserved = s.report.reserved := by
  simp [State.enqueue]

@[simp] theorem State.enqueue_requests (s : State) (f : ReportFrame) : (s.enqueue f).uplink.requests = s.uplink.requests := by
  simp [State.enqueue]

/-- Everything a frame's entry can do to the report unit (R158, R162). -/
theorem State.enqueue_report (s : State) (f : ReportFrame) (x : Report) :
    { (s.enqueue f).report with queue := x.queue, decimation := x.decimation, partSlot := x.partSlot } =
    { s.report with queue := x.queue, decimation := x.decimation, partSlot := x.partSlot } := by
  simp only [State.enqueue, State.kickUplink_frame]
  exact congrArg (fun r : Report => { r with queue := x.queue })
    (State.afterRise_report { s with report := { s.report with queue := s.report.queue ++ [f] } } x)

/-- An entry that is no crossing changes nothing but the queue (R162). -/
theorem State.enqueue_calm (s : State) (f : ReportFrame) (h : s.report.occupancy ≠ 35) :
    (s.enqueue f).report = { s.report with queue := s.report.queue ++ [f] } := by
  have h' : ({ s.report with queue := s.report.queue ++ [f] } : Report).occupancy ≠ Config.highWater := by
    simp only [Report.occupancy, List.length_append, List.length_singleton] at h ⊢
    simp only [Config.highWater]; omega
  simp [State.enqueue, State.afterRise, h']

/-- Everything an entry can do to the uplink (R149, R151). -/
theorem State.enqueue_uplink (s : State) (f : ReportFrame) (x : Uplink) :
    { (s.enqueue f).uplink with
      requests := x.requests, sending := x.sending, reportTag := x.reportTag, servedReport := x.servedReport } =
    { s.uplink with
      requests := x.requests, sending := x.sending, reportTag := x.reportTag, servedReport := x.servedReport } := by
  simp only [State.enqueue]
  rw [State.kickUplink_uplink]
  simp

/-- An answer is the frame of R156. -/
theorem answerFrame_eq (tag : Byte) (k : Nat) (st : Status) (d : List Byte) :
    answerFrame tag k st d = Safety.answer tag k st (if st = .ok then d else []) := rfl

/-- The doubling at a crossing, in the terms of Safety.risen (R162). -/
theorem State.afterRise_eq (s : State) : s.afterRise = { s with report := Safety.risen s.report } := by
  have hr : Safety.risen s.report =
      if s.report.occupancy = 36 ∧ (s.report.decimation.map Decimation.double).map Decimation.effective ≠
          s.report.decimation.map Decimation.effective then
        { Safety.withEvent s.report none (.decimation ((s.report.decimation.map Decimation.double).map Decimation.effective) true)
          with decimation := s.report.decimation.map Decimation.double }
      else s.report := rfl
  simp only [State.afterRise, State.redecimate, hr, Config.highWater]
  by_cases h : s.report.occupancy = 36
  · rw [if_pos h]
    by_cases e : (s.report.decimation.map Decimation.double).map Decimation.effective = s.report.decimation.map Decimation.effective
    · rw [if_pos e, if_neg (fun h => h.2 e)]
    · rw [if_neg e, if_pos ⟨h, e⟩]; rfl
  · rw [if_neg h, if_neg (fun e => h e.1)]

/-- The halving at a crossing, in the terms of Safety.fallen (R163). -/
theorem State.afterFall_eq (s : State) : s.afterFall = { s with report := Safety.fallen s.report } := by
  have hr : Safety.fallen s.report =
      if s.report.occupancy = 12 ∧ (s.report.decimation.map Decimation.halve).map Decimation.effective ≠
          s.report.decimation.map Decimation.effective then
        { Safety.withEvent s.report none (.decimation ((s.report.decimation.map Decimation.halve).map Decimation.effective) false)
          with decimation := s.report.decimation.map Decimation.halve }
      else s.report := rfl
  simp only [State.afterFall, State.redecimate, hr, Config.lowWater]
  by_cases h : s.report.occupancy = 12
  · rw [if_pos h]
    by_cases e : (s.report.decimation.map Decimation.halve).map Decimation.effective = s.report.decimation.map Decimation.effective
    · rw [if_pos e, if_neg (fun h => h.2 e)]
    · rw [if_neg e, if_pos ⟨h, e⟩]; rfl
  · rw [if_neg h, if_neg (fun e => h e.1)]

/-- A crossing leaves the queue as it was. -/
@[simp] theorem risen_queue (r : Report) : (Safety.risen r).queue = r.queue := by
  simp only [Safety.risen]; split <;> rfl

/-- Everything a frame's entry does (R149, R158, R162). -/
theorem State.enqueue_eq (s : State) (f : ReportFrame) : s.enqueue f =
    { s with
      report := Safety.risen { s.report with queue := s.report.queue ++ [f] }
      uplink := s.uplink.choose (s.report.queue ++ [f]) } := by
  simp [State.enqueue, State.afterRise_eq, State.kickUplink]

/-- Everything a given answer does, when none is held: Safety.given (R167, R169). -/
theorem State.giveAnswer_eq (s : State) (tag : Byte) (k : Nat) (st : Status) (d : List Byte) (h : s.mgmt.held = none) :
    s.giveAnswer tag k st d = Safety.given s (answerFrame tag k st d) := by
  have hc : (s.report.placeFree && s.mgmt.held.isNone && !s.restartMark) = true ↔
      s.report.occupancy < 48 ∧ s.restartMark = false := by
    simp [Report.placeFree, h, Config.queuePlaces]
  simp only [State.giveAnswer, Safety.given]
  by_cases hp : s.report.occupancy < 48 ∧ s.restartMark = false
  · rw [if_pos hp, if_pos (hc.mpr hp), State.enqueue_eq]; simp [h]
  · rw [if_neg hp, if_neg (fun e => hp (hc.mp e))]

/-- What a command that serves requests does with one it takes (R169, R171). -/
theorem State.serve_taken (s : State) (k : Nat) (p : List Byte → Bool) (body : State → Request → State) (r : Request)
    (rest : List Request) (h : Safety.Takes s k r rest) (hp : p r.payload = true) :
    s.serve k p body = body { s with uplink := { s.uplink with requests := rest } } r := by
  obtain ⟨⟨h1, h2, h3⟩, h4, h5⟩ := h
  simp [State.serve, h1, h2, h3, h4, h5, hp]

end Sys2Proof.Machine
end

