-- ==== Sys2Proof/Laws/Bytes.lean ====
section
/-! SUPPORT. Byte order: what the writers of fields write, the readers read. -/

namespace Sys2Proof.Machine
open Sys2Proof

@[simp] theorem natLE_length (k v : Nat) : (natLE k v).length = k := by
  induction k generalizing v with
  | zero => rfl
  | succ k ih => simp [natLE, ih]

@[simp] theorem intLE_length (k : Nat) (v : Int) : (intLE k v).length = k := natLE_length _ _

@[simp] theorem markByte_length (b : Bool) : (markByte b).length = 1 := rfl

@[simp] theorem padTo_length (n : Nat) (bs : List Byte) : (padTo n bs).length = n := by simp [padTo]; omega

/-- Every value of k bytes lies below 256 to the k. -/
theorem leNat_lt (bs : List Byte) : leNat bs < 256 ^ bs.length := by
  induction bs with
  | nil => simp [leNat]
  | cons b bs ih =>
    have hb : b.toNat < 256 := b.isLt
    simp only [leNat, List.length_cons, pow_succ]
    omega

/-- An unsigned field holds its value modulo its range. -/
theorem leNat_natLE (k v : Nat) : leNat (natLE k v) = v % 256 ^ k := by
  induction k generalizing v with
  | zero => simp [natLE, leNat, Nat.mod_one]
  | succ k ih =>
    have e : 256 ^ (k + 1) = 256 * 256 ^ k := by rw [pow_succ, Nat.mul_comm]
    rw [natLE, leNat, ih, BitVec.toNat_ofNat, e, Nat.mod_mul]

/-- A signed field holds a value of its range. -/
theorem leInt_intLE (k : Nat) (v : Int) (lo : -(256 ^ k : Nat) ≤ 2 * v) (hi : 2 * v < (256 ^ k : Nat)) :
    leInt (intLE k v) = v := by
  have hpos : (0 : Int) < ((256 ^ k : Nat) : Int) := by positivity
  have hmod : ((v % ((256 ^ k : Nat) : Int)).toNat : Int) = v % ((256 ^ k : Nat) : Int) :=
    Int.toNat_of_nonneg (Int.emod_nonneg _ hpos.ne')
  have hlt := Int.emod_lt_of_pos v hpos
  have hnat : (v % ((256 ^ k : Nat) : Int)).toNat % 256 ^ k = (v % ((256 ^ k : Nat) : Int)).toNat :=
    Nat.mod_eq_of_lt (by omega)
  simp only [leInt, intLE, natLE_length, leNat_natLE, hnat]
  by_cases h0 : 0 ≤ v
  · have hv : v % ((256 ^ k : Nat) : Int) = v := Int.emod_eq_of_lt h0 (by omega)
    rw [hv] at hmod ⊢
    rw [if_pos (by omega), hmod]
  · have hv : v % ((256 ^ k : Nat) : Int) = v + ((256 ^ k : Nat) : Int) := by
      rw [← Int.add_emod_right]; exact Int.emod_eq_of_lt (by omega) (by omega)
    rw [hv] at hmod ⊢
    rw [if_neg (by omega), hmod]; omega

/-- A field that stands after the first part of a structure. -/
theorem field_append_right (off len : Nat) (a b : List Byte) (h : a.length ≤ off) :
    field off len (a ++ b) = field (off - a.length) len b := by
  simp [field, List.drop_append, List.drop_eq_nil_of_le h]

/-- A field that is the whole first part of a structure. -/
theorem field_append_left (len : Nat) (a b : List Byte) (h : a.length = len) : field 0 len (a ++ b) = a := by
  subst h; simp [field]

end Sys2Proof.Machine
end

