-- ==== Sys2Proof/Laws/Memory.lean ====
section
/-! SUPPORT. Table memory: every operation keeps the canonical form, and reading after writing. -/

namespace Sys2Proof.Machine
open Sys2Proof

/-! ### The canonical form -/

/-- Every listed address lies above a bound. -/
def aboveAll (a : Nat) (m : List Host.Cell) : Prop := ∀ c ∈ m, a < c.1

/-- The canonical form of a list with a front entry. -/
theorem Memory.wf_cons (k : Nat) (b : Byte) (m : List Host.Cell) :
    Memory.wf ((k, b) :: m) = true ↔ aboveAll k m ∧ Memory.wf m = true := by
  induction m generalizing k b with
  | nil => simp [Memory.wf, aboveAll]
  | cons e m ih =>
    obtain ⟨k', b'⟩ := e
    simp only [Memory.wf, Bool.and_eq_true, decide_eq_true_eq]
    constructor
    · rintro ⟨h, h'⟩
      refine ⟨fun c hc => ?_, h'⟩
      rcases List.mem_cons.mp hc with rfl | hc
      · exact h
      · exact Nat.lt_trans h (((ih k' b').mp h').1 c hc)
    · rintro ⟨h, h'⟩
      exact ⟨h (k', b') (List.mem_cons_self ..), h'⟩

/-- A write of one byte lists only that address and those listed before. -/
theorem memSet_above (a k : Nat) (b : Byte) (m : List Host.Cell) (h : k < a) (hm : aboveAll k m) :
    aboveAll k (memSet m a b) := by
  induction m with
  | nil => intro c hc; simp only [memSet, List.mem_singleton] at hc; subst hc; exact h
  | cons e m ih =>
    obtain ⟨k', b'⟩ := e
    have hk' : k < k' := hm (k', b') (List.mem_cons_self ..)
    have hm' : aboveAll k m := fun c hc => hm c (List.mem_cons_of_mem _ hc)
    simp only [memSet]
    split
    · intro c hc
      rcases List.mem_cons.mp hc with rfl | hc
      · exact h
      · exact hm c hc
    · split
      · intro c hc
        rcases List.mem_cons.mp hc with rfl | hc
        · exact h
        · exact hm' c hc
      · intro c hc
        rcases List.mem_cons.mp hc with rfl | hc
        · exact hk'
        · exact ih hm' c hc

/-- A write of one byte keeps the canonical form. -/
theorem memSet_wf (m : List Host.Cell) (a : Nat) (b : Byte) (h : Memory.wf m = true) : Memory.wf (memSet m a b) = true := by
  induction m with
  | nil => rfl
  | cons e m ih =>
    obtain ⟨k, c⟩ := e
    have hk := (Memory.wf_cons k c m).mp h
    simp only [memSet]
    split
    · rename_i hlt
      rw [Memory.wf_cons]
      refine ⟨fun x hx => ?_, h⟩
      rcases List.mem_cons.mp hx with rfl | hx
      · exact hlt
      · exact Nat.lt_trans hlt (hk.1 x hx)
    · split
      · rename_i heq
        subst heq
        exact (Memory.wf_cons _ _ _).mpr hk
      · rename_i h1 h2
        exact (Memory.wf_cons _ _ _).mpr ⟨memSet_above _ _ _ _ (by omega) hk.1, ih hk.2⟩

/-- A write of several bytes keeps the canonical form. -/
theorem memWrite_wf (m : List Host.Cell) (a : Nat) (bs : List Byte) (h : Memory.wf m = true) :
    Memory.wf (memWrite m a bs) = true := by
  induction bs generalizing m a with
  | nil => exact h
  | cons b bs ih => exact ih _ _ (memSet_wf m a b h)

/-- Writing bytes keeps the canonical form of table memory. -/
theorem State.writeBytes_wf (s : State) (a : Nat) (bs : List Byte) (h : Memory.wf s.cells = true) :
    Memory.wf (s.writeBytes a bs).cells = true := memWrite_wf _ _ _ h

/-- A slot write keeps the canonical form of table memory. -/
theorem State.writeSlot_wf (s : State) (a : Nat) (e c : Bool) (hd k : Nat) (h : Memory.wf s.cells = true) :
    Memory.wf (s.writeSlot a e c hd k).cells = true := writeBytes_wf _ _ _ (writeBytes_wf _ _ _ h)

/-- Table memory has its canonical form after a hard reset. -/
theorem State.reset_wf : Memory.wf State.reset.cells = true := rfl

/-! ### Reading after writing -/

/-- What a written byte's address lists. -/
theorem memLookup_memSet_self (m : List Host.Cell) (a : Nat) (b : Byte) : memLookup (memSet m a b) a = some b := by
  induction m with
  | nil => simp [memSet, memLookup]
  | cons e m ih =>
    obtain ⟨k, c⟩ := e
    simp only [memSet]
    split
    · simp [memLookup]
    · split
      · simp [memLookup]
      · rename_i h1 h2
        rw [memLookup, if_neg h2, if_neg h1, ih]

/-- Every other address lists what it listed, in canonical memory. -/
theorem memLookup_memSet_ne (m : List Host.Cell) (a x : Nat) (b : Byte) (hx : x ≠ a) :
    memLookup (memSet m a b) x = memLookup m x := by
  induction m with
  | nil => simp [memSet, memLookup, hx]
  | cons e m ih =>
    obtain ⟨k, c⟩ := e
    simp only [memSet]
    split
    · rename_i h1
      rw [memLookup, if_neg hx]
      split
      · rename_i h2
        rw [memLookup, if_neg (by omega), if_pos (by omega)]
      · rfl
    · split
      · rename_i h1 h2
        subst h2
        simp only [memLookup, if_neg hx]
      · simp only [memLookup]
        rw [ih]

/-- What an address lists after several bytes are written. -/
theorem memLookup_memWrite (m : List Host.Cell) (a x : Nat) (bs : List Byte) :
    memLookup (memWrite m a bs) x = if a ≤ x ∧ x < a + bs.length then bs[x - a]? else memLookup m x := by
  induction bs generalizing m a with
  | nil => simp only [memWrite, List.length_nil]; rw [if_neg (by omega)]
  | cons b bs ih =>
    rw [memWrite, ih]
    by_cases h : x = a
    · subst h
      rw [if_neg (by omega), if_pos (by simp), memLookup_memSet_self]
      simp
    · rw [memLookup_memSet_ne _ _ _ _ h]
      by_cases h2 : a + 1 ≤ x ∧ x < a + 1 + bs.length
      · have e : x - a = x - (a + 1) + 1 := by omega
        rw [if_pos h2, if_pos (by simp; omega), e, List.getElem?_cons_succ]
      · rw [if_neg h2, if_neg (by simp; omega)]

/-- One byte read after bytes are written: the byte written there, or what was read before. -/
theorem State.readByte_writeBytes (s : State) (a x : Nat) (bs : List Byte) :
    (s.writeBytes a bs).readByte x = if a ≤ x ∧ x < a + bs.length then bs.getD (x - a) 0 else s.readByte x := by
  simp only [State.readByte, State.writeBytes, memLookup_memWrite]
  split
  · rename_i h
    have hl : x - a < bs.length := by omega
    simp [hl]
  · rfl

/-- One byte read after a slot write: the status byte, the capture head and number, or what was read before (R157). -/
theorem State.readByte_writeSlot (s : State) (addr : Nat) (e c : Bool) (hd k x : Nat) :
    (s.writeSlot addr e c hd k).readByte x =
      if addr + 24 ≤ x ∧ x < addr + 29 then (byteOf hd :: natLE 4 k).getD (x - (addr + 24)) 0
      else if x = addr then byteOf (statusWith (s.readByte addr).toNat e c)
      else s.readByte x := by
  simp only [State.writeSlot, State.readByte_writeBytes, List.length_cons, natLE, List.length_nil]
  by_cases h : x = addr
  · subst h; simp
  · simp only [h, if_false]
    split
    · rfl
    · rw [if_neg (by omega)]

end Sys2Proof.Machine
end

