-- ==== Sys2Proof/Laws/Sine.lean ====
section
/-! SUPPORT. The sine table against the formula of R17: every entry is the nearest integer. The angle of a step is turned
through the quarter with integers, the error counted along, and the kernel compares each entry. -/

namespace Sys2Proof.Laws
open Sys2Proof.Machine Real

/-- One nested square root of the half-angle formula, between two bounds in units of 2^-100. -/
theorem series_step {n lo hi lo' hi' : ℕ}
    (h : (lo : ℝ) / 2 ^ 100 ≤ sqrtTwoAddSeries 0 n ∧ sqrtTwoAddSeries 0 n ≤ (hi : ℝ) / 2 ^ 100)
    (hlo : lo' ^ 2 ≤ (2 * 2 ^ 100 + lo) * 2 ^ 100) (hhi : (2 * 2 ^ 100 + hi) * 2 ^ 100 ≤ hi' ^ 2) :
    (lo' : ℝ) / 2 ^ 100 ≤ sqrtTwoAddSeries 0 (n + 1) ∧ sqrtTwoAddSeries 0 (n + 1) ≤ (hi' : ℝ) / 2 ^ 100 := by
  have a : (lo' : ℝ) ^ 2 ≤ (2 * 2 ^ 100 + lo) * 2 ^ 100 := by exact_mod_cast hlo
  have b : (2 * 2 ^ 100 + (hi : ℝ)) * 2 ^ 100 ≤ (hi' : ℝ) ^ 2 := by exact_mod_cast hhi
  constructor
  · refine le_sqrt_of_sq_le ?_
    rw [div_pow, div_le_iff₀ (by positivity)]
    nlinarith [h.1, (div_le_iff₀ (by positivity : (0 : ℝ) < 2 ^ 100)).1 h.1]
  · refine sqrt_le_iff.2 ⟨by positivity, ?_⟩
    rw [div_pow, le_div_iff₀ (by positivity)]
    nlinarith [h.2, (le_div_iff₀ (by positivity : (0 : ℝ) < 2 ^ 100)).1 h.2]

/-- 2^64 times the cosine of one step of the table, 4,096 counts, to the nearest integer. -/
def stepCos : Nat := 18446722370224206390

/-- 2^64 times the sine of one step of the table, to the nearest integer. -/
def stepSin : Nat := 28296939910536374

/-- The two values are near. -/
theorem step_near : |(stepCos : ℝ) - 2 ^ 64 * cos (π / 2048)| ≤ 1 ∧ |(stepSin : ℝ) - 2 ^ 64 * sin (π / 2048)| ≤ 1 := by
  have h0 : ((0 : ℕ) : ℝ) / 2 ^ 100 ≤ sqrtTwoAddSeries 0 0 ∧ sqrtTwoAddSeries 0 0 ≤ ((0 : ℕ) : ℝ) / 2 ^ 100 := by simp
  have h1 := series_step h0 (lo' := 1792728671193156477399422023278) (hi' := 1792728671193156477399422023279) (by norm_num) (by norm_num)
  have h2 := series_step h1 (lo' := 2342312887853017271876100048437) (hi' := 2342312887853017271876100048438) (by norm_num) (by norm_num)
  have h3 := series_step h2 (lo' := 2486586098796334716632559807551) (hi' := 2486586098796334716632559807552) (by norm_num) (by norm_num)
  have h4 := series_step h3 (lo' := 2523093032207953601426909945784) (hi' := 2523093032207953601426909945785) (by norm_num) (by norm_num)
  have h5 := series_step h4 (lo' := 2532247319127429991831297973077) (hi' := 2532247319127429991831297973078) (by norm_num) (by norm_num)
  have h6 := series_step h5 (lo' := 2534537615135390320840556586092) (hi' := 2534537615135390320840556586093) (by norm_num) (by norm_num)
  have h7 := series_step h6 (lo' := 2535110296938849794057134178035) (hi' := 2535110296938849794057134178037) (by norm_num) (by norm_num)
  have h8 := series_step h7 (lo' := 2535253474127839226385074884339) (hi' := 2535253474127839226385074884341) (by norm_num) (by norm_num)
  have h9 := series_step h8 (lo' := 2535289268846227693936073797551) (hi' := 2535289268846227693936073797553) (by norm_num) (by norm_num)
  have h10 := series_step h9 (lo' := 2535298217552146260232929398457) (hi' := 2535298217552146260232929398458) (by norm_num) (by norm_num)
  have hc : cos (π / 2048) = sqrtTwoAddSeries 0 10 / 2 := by rw [← cos_pi_over_two_pow 10]; norm_num
  have hs : sin (π / 2048) = √(2 - sqrtTwoAddSeries 0 9) / 2 := by rw [← sin_pi_over_two_pow_succ 9]; norm_num
  have lo : ((stepSin : ℝ) - 1) / 2 ^ 63 ≤ √(2 - sqrtTwoAddSeries 0 9) := by
    refine le_sqrt_of_sq_le ?_
    have := h9.2
    norm_num [stepSin] at this ⊢
    linarith
  have hi : √(2 - sqrtTwoAddSeries 0 9) ≤ ((stepSin : ℝ) + 1) / 2 ^ 63 := by
    refine sqrt_le_iff.2 ⟨by positivity, ?_⟩
    have := h9.1
    norm_num [stepSin] at this ⊢
    linarith
  rw [hc, hs, abs_le, abs_le]
  have p := h10.1
  have q := h10.2
  norm_num [stepCos] at p q ⊢
  norm_num at lo hi
  constructor <;> constructor <;> linarith

/-- The table's entries turned one step at a time: the cosine c and sine s of the entry's angle in units of 2^-64, each off by
at most e, decide that the entry is the nearest integer. -/
def turns : List Nat → Nat → Nat → Nat → Bool
  | [], _, _, _ => true
  | t :: ts, c, s, e =>
    (t * 2 ^ 34 + e).ble (s + 2 ^ 33) && (s + e).ble (t * 2 ^ 34 + 2 ^ 33) &&
      (ts.isEmpty || ((stepSin * s).ble (stepCos * c) &&
        turns ts ((stepCos * c - stepSin * s) / 2 ^ 64) ((stepSin * c + stepCos * s) / 2 ^ 64) (e + e / 512 + 4)))

/-- A quotient is the exact one less than one unit less. -/
theorem div_near (a : ℕ) : ((a / 2 ^ 64 : ℕ) : ℝ) ≤ a / 2 ^ 64 ∧ (a : ℝ) / 2 ^ 64 - 1 ≤ (a / 2 ^ 64 : ℕ) := by
  have := Nat.div_add_mod a (2 ^ 64)
  have m := Nat.mod_lt a (by norm_num : 0 < 2 ^ 64)
  have : (a : ℝ) = 2 ^ 64 * (a / 2 ^ 64 : ℕ) + (a % 2 ^ 64 : ℕ) := by exact_mod_cast this.symm
  have m' : ((a % 2 ^ 64 : ℕ) : ℝ) ≤ 2 ^ 64 := by exact_mod_cast m.le
  have z : (0 : ℝ) ≤ ((a % 2 ^ 64 : ℕ) : ℝ) := by positivity
  constructor <;> rw [this] <;> ring_nf at * <;> linarith

/-- One turn keeps the error within its count. -/
theorem turn_near {c s e : ℕ} {x : ℝ} (hle : stepSin * s ≤ stepCos * c) (hc : |(c : ℝ) - 2 ^ 64 * cos x| ≤ (e : ℝ))
    (hs : |(s : ℝ) - 2 ^ 64 * sin x| ≤ (e : ℝ)) :
    |(((stepCos * c - stepSin * s) / 2 ^ 64 : ℕ) : ℝ) - 2 ^ 64 * cos (x + π / 2048)| ≤ ((e + e / 512 + 4 : ℕ) : ℝ) ∧
    |(((stepSin * c + stepCos * s) / 2 ^ 64 : ℕ) : ℝ) - 2 ^ 64 * sin (x + π / 2048)| ≤ ((e + e / 512 + 4 : ℕ) : ℝ) := by
  obtain ⟨kc, ks⟩ := step_near
  have fit : (e : ℝ) + e / 600 + 3 ≤ ((e + e / 512 + 4 : ℕ) : ℝ) := by
    have := Nat.div_add_mod e 512
    have m := Nat.mod_lt e (by norm_num : 0 < 512)
    have : (e : ℝ) = 512 * (e / 512 : ℕ) + (e % 512 : ℕ) := by exact_mod_cast this.symm
    have m' : ((e % 512 : ℕ) : ℝ) ≤ 512 := by exact_mod_cast m.le
    push_cast
    have z : (0 : ℝ) ≤ e := by positivity
    linarith
  have cu : (stepCos : ℝ) / 2 ^ 64 ≤ 1 := by norm_num [stepCos]
  have su : (stepSin : ℝ) / 2 ^ 64 ≤ 1 / 600 := by norm_num [stepSin]
  have c0 : (0 : ℝ) ≤ (stepCos : ℝ) / 2 ^ 64 := by positivity
  have s0 : (0 : ℝ) ≤ (stepSin : ℝ) / 2 ^ 64 := by positivity
  have e0 : (0 : ℝ) ≤ e := by positivity
  have bound (a b u v : ℝ) (ha : |a| ≤ (e : ℝ)) (hb : |b| ≤ (e : ℝ)) (hu : |u| ≤ 1) (hv : |v| ≤ 1) :
      |(stepCos : ℝ) / 2 ^ 64 * a + stepSin / 2 ^ 64 * b + u + v| ≤ (e : ℝ) + e / 600 + 2 := by
    have p : |(stepCos : ℝ) / 2 ^ 64 * a| ≤ (e : ℝ) := by
      rw [abs_mul, abs_of_nonneg c0]; nlinarith [abs_nonneg a]
    have q : |(stepSin : ℝ) / 2 ^ 64 * b| ≤ (e : ℝ) / 600 := by
      rw [abs_mul, abs_of_nonneg s0]; nlinarith [abs_nonneg b]
    rw [abs_le] at *
    constructor <;> linarith [p.1, p.2, q.1, q.2, hu.1, hu.2, hv.1, hv.2]
  have part (d t : ℝ) (hd : |d| ≤ 1) (ht : |t| ≤ 1) : |d * t| ≤ 1 := by
    rw [abs_mul]; nlinarith [abs_nonneg d, abs_nonneg t]
  generalize ((e + e / 512 + 4 : ℕ) : ℝ) = next at fit ⊢
  constructor
  · have d := div_near (stepCos * c - stepSin * s)
    have b := bound (c - 2 ^ 64 * cos x) (-(s - 2 ^ 64 * sin x)) ((stepCos - 2 ^ 64 * cos (π / 2048)) * cos x)
      (-((stepSin - 2 ^ 64 * sin (π / 2048)) * sin x)) hc (by rwa [abs_neg]) (part _ _ kc (abs_cos_le_one x))
      (by rw [abs_neg]; exact part _ _ ks (abs_sin_le_one x))
    rw [Nat.cast_sub hle] at d
    push_cast at d
    rw [cos_add]
    rw [abs_le] at b ⊢
    ring_nf at b d fit ⊢
    constructor <;> linarith [b.1, b.2, d.1, d.2]
  · have d := div_near (stepSin * c + stepCos * s)
    have b := bound (s - 2 ^ 64 * sin x) (c - 2 ^ 64 * cos x) ((stepCos - 2 ^ 64 * cos (π / 2048)) * sin x)
      ((stepSin - 2 ^ 64 * sin (π / 2048)) * cos x) hs hc (part _ _ kc (abs_sin_le_one x))
      (part _ _ ks (abs_cos_le_one x))
    push_cast at d
    rw [sin_add]
    rw [abs_le] at b ⊢
    ring_nf at b d fit ⊢
    constructor <;> linarith [b.1, b.2, d.1, d.2]

/-- Entries that turns accepts are the nearest integers to their sines. -/
theorem turns_near (ts : List Nat) : ∀ (c s e : ℕ) (x : ℝ), turns ts c s e = true → |(c : ℝ) - 2 ^ 64 * cos x| ≤ (e : ℝ) →
    |(s : ℝ) - 2 ^ 64 * sin x| ≤ (e : ℝ) →
    ∀ k, k < ts.length → |((ts.getD k 0 : ℕ) : ℝ) - 2 ^ 30 * sin (x + k * (π / 2048))| ≤ 1 / 2 := by
  induction ts with
  | nil => intro c s e x _ _ _ k h; simp at h
  | cons t ts ih =>
    intro c s e x h hc hs k hk
    simp only [turns, Bool.and_eq_true, Bool.or_eq_true, Nat.ble_eq, List.isEmpty_iff] at h
    obtain ⟨⟨lo, hi⟩, rest⟩ := h
    cases k with
    | zero =>
      have lo' : (t : ℝ) * 2 ^ 34 + e ≤ s + 2 ^ 33 := by exact_mod_cast lo
      have hi' : (s : ℝ) + e ≤ t * 2 ^ 34 + 2 ^ 33 := by exact_mod_cast hi
      simp only [List.getD_cons_zero, Nat.cast_zero, zero_mul, add_zero]
      rw [abs_le] at hs ⊢
      constructor <;> linarith [hs.1, hs.2]
    | succ k =>
      obtain rfl | ⟨hle, hr⟩ := rest
      · simp at hk
      · obtain ⟨nc, ns⟩ := turn_near hle hc hs
        have := ih _ _ _ (x + π / 2048) hr nc ns k (by simpa using hk)
        rw [List.getD_cons_succ]
        convert this using 5
        push_cast; ring

/-- Every entry of the table is accepted. -/
theorem turns_table : turns sineParts.flatten (2 ^ 64) 0 0 = true := by decide +kernel

/-- The table read entry by entry is its parts one after another. -/
theorem table_entries : (List.range 1025).map sineTable = sineParts.flatten := by decide +kernel

/-- T[i] is 2^30 sin (i π / 2048) rounded to the nearest integer, for each of the 1,025 entries (R17). -/
theorem sineTable_nearest (i : ℕ) (h : i ≤ 1024) : |(sineTable i : ℝ) - 2 ^ 30 * sin (i * π / 2048)| ≤ 1 / 2 := by
  have at_ : sineParts.flatten.getD i 0 = sineTable i := by
    rw [← table_entries, List.getD_eq_getElem _ _ (by simp; omega)]; simp
  have n := turns_near sineParts.flatten (2 ^ 64) 0 0 0 turns_table (by norm_num) (by norm_num) i
    (by rw [← table_entries, List.length_map, List.length_range]; omega)
  rw [at_] at n
  simpa [mul_div_assoc] using n

end Sys2Proof.Laws
end

