-- ==== Sys2Proof/WellFormed.lean ====
section
/-! DEFINITION. Well-formed commands: a command that carries a frame carries one that belongs to its row (R144, R147, R148);
every other command is well formed. The meanings do not assume it: a port judges whatever bytes it is given (log 13). -/

namespace Sys2Proof
open Sys2Proof.Machine

/-- The frame a command carries belongs to the command's row. -/
def Instr.wellFormed : Instr → Bool
  | .badFrame _ f => frameBad f
  | .sampleFrame _ f =>
    !frameBad f && frameKind f == kindSample && frameDest f == codePart && frameLength f == samplePayload
  | .headStatusFrame _ f => !frameBad f && frameKind f == kindHeadStatus && frameDest f == codeSurvey
  | .headCommandFrame f => !frameBad f && frameKind f == kindHeadCommand && (headOfCode (frameDest f)).isSome
  | .managementRequestFrame f => !frameBad f && frameKind f == kindRequest && frameDest f == codePart
  | .discardedGoodFrame p f => !frameBad f && frameUnrouted p f
  | .hardReset | .unknownKindRequest | .readPart | .readHead | .readTime | .readCell | .memRead | .readFault
  | .syncConfig | .headConfig | .writeComp | .writePose | .tableConfig | .tableConfigApply | .spillConfig
  | .memConfig | .setArbiter | .memWrite | .memWriteResume | .purgeCell | .purgeAll | .pinCell | .pinCellResume
  | .unpinCell | .pointState | .pointStateResume | .headModeEnable | .headModeDisable | .headModeAim | .clearFault
  | .setServiceActive | .setServiceHold | .setServiceStandby | .setServiceWake | .restart | .restartProper
  | .syncEpoch | .syncExpiry _ | .silenceLimit _ | .coastLimit _ | .searchDwellEnd _ | .settleExpiry _
  | .triggerExpired _ | .syncPulseEnd _ | .triggerEdge _ | .referenceEdge | .referenceTimeout | .lockUpComplete
  | .captureAttempt | .refreshExpiry | .memoryGrant | .walkReadDone | .pendingStartRetry _ | .rewalkStart
  | .writebackDone | .spillWriteDone | .drainReadStart | .drainReadDone | .memReadDone | .memWriteDone
  | .pointStateWriteDone | .refreshDone | .initSettleEnd | .initRefreshDone | .selfRefreshEntry
  | .selfRefreshExitDone | .eventSlotTaken | .heldAnswerEntry | .uplinkTxEnd | .headTxEnd _ => true

end Sys2Proof
end

