-- ==== Sys2Proof/Tests/Slice0.lean ====
section
/-! SUPPORT. Tests: the well-formedness smoke, the spec's own worked figures on single steps, and for every statement of
Certificates/Slice0/Obligations.lean that has hypotheses a witness that meets them, clause by clause. Expected values stand
in spec/; each test names its section. -/

namespace Sys2Proof.Tests
set_option Elab.async false
open Sys2Proof Sys2Proof.Machine Sys2Proof.Safety

/-! ### Helpers -/

/-- The state an outcome carries; the reset state where it carries none. -/
def after : Out → State
  | .next s => s
  | .fault _ => State.reset
  | .refused _ => State.reset

/-- The state after one command. -/
def does (c : Instr) (s : State) : State := after (exec c s)

/-- Bytes from numbers. -/
def bytes (l : List Nat) : List Byte := l.map byteOf

/-- The part in a service state, its memory READY. -/
def inService (v : ServiceState) : State := { State.reset with service := v, mem := { MemCtl.reset with state := .ready } }

/-- A state with one request, tag 77, in the management request buffer. -/
def asked (p : List Byte) (s : State) : State := { s with uplink := { s.uplink with requests := [⟨77, p⟩] } }

/-- The payload of the newest frame of the report queue. -/
def newest (s : State) : Option (List Byte) := s.report.queue.getLast?.map ReportFrame.payload

/-- A request's work kept in hand. -/
def holding (w : Work) (s : State) : State := { s with mgmt := ⟨some ⟨77, w⟩, none⟩ }

/-- An access in progress since time 0. -/
def running (a : Access) (s : State) : State := { s with mem := { s.mem with running := some ⟨a, 0, 40⟩ } }

/-- A head's context put into a state. -/
def headIn (n : Head) (st : CtxState) (s : State) : State := { s with ctx := s.ctx.set n { s.ctx.get n with state := st } }

/-- The table of the worked lookup sequence (3.9) and the ring of the worked spill sequence (4.10). -/
def tabled (s : State) : State :=
  { s with
    lookup := { s.lookup with configured := true, base := 4194304 }
    spill := { s.spill with configured := true, base := 8388608 } }

/-- A raw sample of an index and an intensity, all else 0. -/
def raw (index intensity : Nat) : RawSample := ⟨index, 0, 0, 0, 0, 0, 0, intensity, false, false⟩

/-- The frame of a raw sample from head n to the part. -/
def sampleOf (n : Head) (r : RawSample) : List Byte := buildFrame 1 0 (headNumber n + 1) 0 0 (Safety.samplePayload r 0)

/-- A sync history whose newest entry has an index and a time. -/
def expired (n : Head) (index time : Nat) (s : State) : State :=
  { s with headTime := s.headTime.set n { s.headTime.get n with history := [⟨index, time, 100000⟩] } }

/-! ### Well-formedness: every check refuses an ill-formed command -/

theorem test_wf_badFrame : (Instr.badFrame .uplink (buildFrame 5 0 5 0 0 [])).wellFormed = false ∧
    (Instr.badFrame .uplink (bytes [1, 2, 3])).wellFormed = true := by decide +kernel

theorem test_wf_sampleFrame : (Instr.sampleFrame .h0 (sampleOf .h0 (raw 1 50))).wellFormed = true ∧
    (Instr.sampleFrame .h0 (bytes [1, 2, 3])).wellFormed = false ∧
    (Instr.sampleFrame .h0 (buildFrame 2 0 1 0 0 (Safety.samplePayload (raw 1 50) 0))).wellFormed = false ∧
    (Instr.sampleFrame .h0 (buildFrame 1 5 1 0 0 (Safety.samplePayload (raw 1 50) 0))).wellFormed = false ∧
    (Instr.sampleFrame .h0 (buildFrame 1 0 1 0 0 [0])).wellFormed = false := by decide +kernel

theorem test_wf_headStatusFrame : (Instr.headStatusFrame .h0 (buildFrame 2 5 1 0 0 [9])).wellFormed = true ∧
    (Instr.headStatusFrame .h0 (buildFrame 2 0 1 0 0 [9])).wellFormed = false ∧
    (Instr.headStatusFrame .h0 (buildFrame 1 5 1 0 0 [9])).wellFormed = false ∧
    (Instr.headStatusFrame .h0 (bytes [2, 5])).wellFormed = false := by decide +kernel

theorem test_wf_headCommandFrame : (Instr.headCommandFrame (buildFrame 4 4 5 0 0 [9])).wellFormed = true ∧
    (Instr.headCommandFrame (buildFrame 4 5 5 0 0 [9])).wellFormed = false ∧
    (Instr.headCommandFrame (buildFrame 4 0 5 0 0 [9])).wellFormed = false ∧
    (Instr.headCommandFrame (buildFrame 5 1 5 0 0 [9])).wellFormed = false ∧
    (Instr.headCommandFrame (bytes [4, 1])).wellFormed = false := by decide +kernel

theorem test_wf_managementRequestFrame : (Instr.managementRequestFrame (buildFrame 5 0 5 0 0 [17])).wellFormed = true ∧
    (Instr.managementRequestFrame (buildFrame 5 1 5 0 0 [17])).wellFormed = false ∧
    (Instr.managementRequestFrame (buildFrame 4 0 5 0 0 [17])).wellFormed = false ∧
    (Instr.managementRequestFrame (bytes [5, 0])).wellFormed = false := by decide +kernel

theorem test_wf_discardedGoodFrame : (Instr.discardedGoodFrame (.head .h0) (buildFrame 9 5 1 0 0 [])).wellFormed = true ∧
    (Instr.discardedGoodFrame (.head .h0) (buildFrame 2 5 1 0 0 [])).wellFormed = false ∧
    (Instr.discardedGoodFrame .uplink (buildFrame 5 0 5 0 0 [])).wellFormed = false ∧
    (Instr.discardedGoodFrame .uplink (bytes [9])).wellFormed = false := by decide +kernel

/-! ### Worked figures of the spec -/

/-- A compensation table of zeros but for two entries. -/
def table (i : Nat) (a : Int) (j : Nat) (b : Int) : List Int := ((List.replicate 256 (0 : Int)).set i a).set j b

/-- 1.3, the four rows of the example. -/
theorem test_encoder_error : encoderError (table 64 12 65 12) 4194316 = 12 ∧
    encoderError (table 10 (-5) 11 (-20)) 685360 = -12 ∧ encoderError (table 255 40 0 (-8)) 16760832 = 4 ∧
    encoderError (table 2 0 3 1) 163840 = 1 := by decide +kernel

/-- 1.12: the head of worked case 1 and its sample. -/
def case1 : Measure :=
  ⟨table 64 12 65 12, List.replicate 256 0, 343597384, 2, 60000000,
    ⟨⟨0, -1073741824, 0⟩, ⟨1073741824, 0, 0⟩, ⟨0, 0, 1073741824⟩⟩, ⟨30000000, 4000000, 1500000⟩, 4, 12000000⟩

theorem test_worked_case_1 :
    let m := measureSample case1 .interferometer 0 ⟨1999, 4194316, 0, 6250000, 0, 1, 0, 90, false, false⟩
    m.az = 4194304 ∧ m.el = 0 ∧ m.dist = some 12500000 ∧ m.block = some ⟨⟨17500000, 4000000, 1500000⟩, 4⟩ ∧
    m.flags = SampleFlags.none ∧ cellKeyOf 20 ⟨17500000, 4000000, 1500000⟩ = ⟨16, 3, 1⟩ ∧
    cellHash 1024 ⟨16, 3, 1⟩ = 46 ∧ bucketAddress 4194304 46 = 4194304 + 2944 := by decide +kernel

/-- 1.13: worked case 2. -/
def case2 : Measure :=
  ⟨table 192 9 193 (-500), table 224 5 225 5, 1073741824, 2, 60000000,
    ⟨⟨-1073741824, 0, 0⟩, ⟨0, -1073741824, 0⟩, ⟨0, 0, 1073741824⟩⟩, ⟨21000000, 9000000, 6000000⟩, 9, 8000000⟩

theorem test_worked_case_2 :
    let m := measureSample case2 .interferometer 0 ⟨5, 12582921, -2097150, -1000002, 0, 2600, 3, 120, false, false⟩
    m.az = 12584960 ∧ m.el = -2097152 ∧ m.dist = some 7750000 ∧ sine 12584960 = -1073741193 ∧ cosine 12584960 = 823550 ∧
    cosine (-2097152) = 759250125 ∧ m.block = some ⟨⟨20995797, 14480075, 519922⟩, 9⟩ ∧
    m.flags = { SampleFlags.none with psdClamp := true } ∧ cellKeyOf 20 ⟨20995797, 14480075, 519922⟩ = ⟨20, 13, 0⟩ ∧
    cellHash 1024 ⟨20, 13, 0⟩ = 423 := by decide +kernel

/-- 1.14: negative cells, saturation, and the mean's midway values. -/
theorem test_further_figures : cellKeyOf 20 ⟨-2500000, 2500000, -1⟩ = ⟨-3, 2, -1⟩ ∧ cellHash 1024 ⟨-3, 2, -1⟩ = 122 ∧
    saturate 2148000000 = 2147483647 ∧ (cellKeyOf 20 ⟨2147483647, 0, 0⟩).cx = 2047 ∧ meanOf (-22) 4 = -6 ∧
    meanOf 21 2 = 11 ∧ meanOf 52500007 3 = 17500002 := by decide +kernel

/-- 2.10: the five rows. -/
theorem test_velocity : rate (shortWay (300 - 16777000)) 1 20000 = 516 ∧ rate (shortWay (16776900 - 400)) 1 20000 = -716 ∧
    rate 1001 2 20000 = 501 ∧ rate (-1001) 2 20000 = -500 ∧ rate 50000 1 20000 = 20000 := by decide +kernel

/-- R46's ring 1, from (1, 0) on anticlockwise. -/
theorem test_ring_one : (List.range 8).map (fun i => ringOffset 1 (i + 1)) =
    [(1, 0), (1, 1), (0, 1), (-1, 1), (-1, 0), (-1, -1), (0, -1), (1, -1)] := by decide +kernel

/-- 6.9: banks, rows and the durations of the four cases. -/
theorem test_banks_and_rows : (bankOf 8192 4197248, rowOf 8192 4197248) = (0, 513) ∧
    (bankOf 8192 4239104, rowOf 8192 4239104) = (1, 517) ∧ (bankOf 8192 8388608, rowOf 8192 8388608) = (0, 1024) ∧
    (bankOf 8192 20480, rowOf 8192 20480) = (2, 2) ∧ rowDuration Timing.reset none 513 = 40 ∧
    rowDuration Timing.reset (some 513) 513 = 25 ∧ rowDuration Timing.reset (some 513) 1024 = 55 := by decide +kernel

/-- 6.9: a write-back onto the open row 513 takes 25 + 25 ns; with X1 and X3 the order is MGMT, WRITEBACK, WALK, SPILL. -/
theorem test_writeback_cost : (accessCost { MemCtl.reset with openRows := [some 513, some 517, none, none] }
      { Lookup.reset with base := 4194304 } Spill.reset (.writeback 46 .a)).1 = 50 ∧
    requesterOrder true false true = [.mgmt, .writeback, .walk, .spill] := by decide +kernel

/-- CRC-16 of a polynomial 1021H and initial value FFFFH: the check value of the nine digits is 29B1H (R145). -/
theorem test_crc : crc (bytes [49, 50, 51, 52, 53, 54, 55, 56, 57]) = 10673#16 := by decide +kernel

/-! ### Commands, one step each -/

/-- R184: a hard reset leaves START with the timebase at 0. -/
theorem test_hardReset : let t := does .hardReset { inService .active with time := { TimeBase.reset with timebase := 9 } }
    t.service = .start ∧ t.time.timebase = 0 ∧ t.mem.state = .uninitialized ∧ t.resetCount = 1 := by decide

/-- R144: a bad frame is counted, the count stays at 65,535, and the port stays DOWN. -/
theorem test_badFrame : let s := { State.reset with uplink := { Uplink.reset with bad := 65535 } }
    (does (.badFrame .uplink (bytes [1])) s).uplink = s.uplink ∧
    ((does (.badFrame (.head .h2) (bytes [1])) s).ports.get .h2).bad = 1 := by decide +kernel

/-- 2.9, sample 1,001: a LOCKED context without a return goes to COASTING with the timer at the coast limit. -/
theorem test_sampleFrame : let s := expired .h1 1001 5 (headIn .h1 .locked (inService .hold))
    let t := does (.sampleFrame .h1 (sampleOf .h1 (raw 1001 12))) s
    (t.ctx.get .h1).state = .coasting ∧ (t.ctx.get .h1).timer = 50 ∧ (t.ctx.get .h1).lastIndex = some 1001 ∧
    (t.report.headSlots.get .h1) = some ⟨.state .locked .coasting .returnLost, false⟩ := by decide +kernel

/-- 10.4, step 1: index 1,204 against 1,207 raises SAMPLE_SEQUENCE with its index. -/
theorem test_sampleFrame_stale : let s := expired .h1 1207 5 (inService .active)
    let t := does (.sampleFrame .h1 (sampleOf .h1 (raw 1204 90))) s
    (t.headFaults.get .h1).first = some ⟨.sampleSequence, 0, 1204⟩ ∧ (t.ctx.get .h1).lastIndex = none := by decide +kernel

theorem test_headStatusFrame : let f := buildFrame 2 5 3 9 0 [1, 2]
    (does (.headStatusFrame .h2 f) State.reset).uplink.forward = [f] := by decide +kernel

/-- R52: a forwarded Head Command with the motion flag takes a SEARCHING context to LOST. -/
theorem test_headCommandFrame : let f := buildFrame 4 1 5 9 1 [1]
    let t := does (.headCommandFrame f) (headIn .h0 .searching (inService .active))
    (t.ctx.get .h0).state = .lost ∧ (t.ports.get .h0).forward = [f] := by decide +kernel

/-- 7.8: the fifth request finds the buffer full and is counted. -/
theorem test_managementRequestFrame : let s := { State.reset with
      uplink := { Uplink.reset with requests := List.replicate 4 ⟨0, []⟩ } }
    let t := does (.managementRequestFrame (buildFrame 5 0 5 31 0 [17])) s
    t.uplink.requests.length = 4 ∧ t.uplink.bad = 1 ∧ t.uplink.up = true ∧
    (does (.managementRequestFrame (buildFrame 5 0 5 31 0 [17])) State.reset).uplink.requests = [⟨31, [17]⟩] := by
  decide +kernel

/-- A Position frame never belongs on a head port; it is counted and brings the port UP (R146, R147). -/
theorem test_discardedGoodFrame : let t := does (.discardedGoodFrame (.head .h3) (buildFrame 7 5 4 0 0 [])) State.reset
    (t.ports.get .h3).up = true ∧ (t.ports.get .h3).bad = 1 := by decide +kernel

/-- R171: kind 200 is answered UNKNOWN_KIND with its kind. -/
theorem test_unknownKindRequest : newest (does .unknownKindRequest (asked (bytes [200]) State.reset)) = some (bytes [200, 8]) := by
  decide

/-- R173: part section 4 does not exist. -/
theorem test_readPart : newest (does .readPart (asked (bytes [1, 4]) State.reset)) = some (bytes [1, 2]) := by decide

theorem test_readHead : newest (does .readHead (asked (bytes [2, 4, 0]) State.reset)) = some (bytes [2, 2]) := by decide

/-- R122: time section 0 begins with the timebase. -/
theorem test_readTime : let s := { State.reset with time := { TimeBase.reset with timebase := 258 } }
    (newest (does .readTime (asked (bytes [3, 0]) s))).map (List.take 10) = some (bytes [3, 0, 2, 1, 0, 0, 0, 0, 0, 0]) := by
  decide +kernel

theorem test_readCell : newest (does .readCell (asked (bytes [4, 32, 0]) State.reset)) = some (bytes [4, 2]) := by decide

/-- R138: a read that begins in table memory and ends past it is answered ADDRESS. -/
theorem test_memRead : newest (does .memRead (asked (bytes [5, 255, 255, 255, 3, 2]) (inService .active))) = some (bytes [5, 6]) ∧
    (does .memRead (asked (bytes [5, 0, 80, 0, 0, 48]) (inService .active))).mem.mgmt = some (.read 20480 48) := by decide +kernel

/-- 10.4, step 1: the first fault's code, time and detail. -/
theorem test_readFault : let s := { State.reset with
      headFaults := State.reset.headFaults.set .h1 ⟨some ⟨.sampleSequence, 6310000000, 1204⟩, []⟩ }
    (newest (does .readFault (asked (bytes [6, 1]) s))).map (List.take 20) =
      some (bytes [6, 0, 1, 2, 128, 245, 26, 120, 1, 0, 0, 0, 180, 4, 0, 0, 0, 0, 0, 0]) := by decide +kernel

/-- 5.7: the request of the worked sequence becomes pending. -/
theorem test_syncConfig : let p := bytes [7] ++ natLE 4 50000 ++ natLE 4 0 ++ natLE 4 25000 ++ natLE 4 60000 ++ natLE 4 75000
    let t := does .syncConfig (asked p State.reset)
    t.time.pendingSync = some ⟨50000, ⟨0, 25000, 60000, 75000⟩⟩ ∧ t.time.period = 100000 ∧
    newest t = some (bytes [7, 0]) := by decide +kernel

/-- R30: a count scale of 0 is answered BAD_VALUE. -/
theorem test_headConfig : newest (does .headConfig (asked (bytes ([8, 0] ++ List.replicate 26 0)) State.reset)) =
    some (bytes [8, 2]) := by decide +kernel

/-- R7: entries that would run past 255 are answered BAD_VALUE; the last entry alone is written. -/
theorem test_writeComp : newest (does .writeComp (asked (bytes [9, 0, 0, 255, 1, 0, 1, 0]) State.reset)) = some (bytes [9, 2]) ∧
    ((does .writeComp (asked (bytes [9, 3, 1, 255, 254, 255]) State.reset)).measure.get .h3).compEl.getD 255 0 = -2 := by
  decide +kernel

/-- R21: a pose takes the next generation and its answer carries it. -/
theorem test_writePose : let s := { State.reset with measure := State.reset.measure.set .h2 { Measure.reset with poseGen := 65535 } }
    newest (does .writePose (asked (bytes ([10, 2] ++ List.replicate 48 0)) s)) = some (bytes [10, 0, 0, 0]) := by decide +kernel

/-- 9.9, tag 21: base 4,195,328 is not a multiple of 65,536. -/
theorem test_tableConfig : newest (does .tableConfig (asked (bytes ([11] ++ (natLE 4 4195328 ++ natLE 4 1024).map BitVec.toNat ++ [20]))
      State.reset)) = some (bytes [11, 5]) := by decide +kernel

/-- 9.9, tag 22. -/
theorem test_tableConfigApply : let t := does .tableConfigApply (holding (.tableConfig 4194304 1024 20) State.reset)
    t.lookup.configured = true ∧ t.lookup.base = 4194304 ∧ newest t = some (bytes [11, 0]) := by decide +kernel

/-- R104: a base that is no multiple of 32,768 is answered ALIGN. -/
theorem test_spillConfig : newest (does .spillConfig (asked (bytes [12, 0, 64, 0, 0]) State.reset)) = some (bytes [12, 5]) ∧
    (does .spillConfig (asked (bytes [12, 0, 0, 128, 0]) State.reset)).spill.base = 8388608 := by decide +kernel

/-- 9.9, tag 20: a refresh interval of 80 is clamped to 64. -/
theorem test_memConfig : let t := does .memConfig (asked (bytes [13, 1, 80, 15, 0, 15, 0, 25, 0, 160, 0, 200, 0]) State.reset)
    t.mem.refreshInterval = 64 ∧ t.mem.interleave = .k8 ∧ t.mem.timing = ⟨15, 15, 25, 160, 200⟩ ∧
    newest t = some (bytes [13, 0]) := by decide +kernel

theorem test_setArbiter : let t := does .setArbiter (asked (bytes [14, 5]) State.reset)
    (t.mem.x1, t.mem.x2, t.mem.x3) = (true, false, true) := by decide

/-- R102: a MEM_WRITE over a pending write-back waits; R139: one over the ring region is answered ADDRESS. -/
theorem test_memWrite : let s := { tabled (inService .active) with
      capture := { Capture.reset with writeback := [⟨46, .a, true, true, 0, 57, .waiting⟩] } }
    (does .memWrite (asked ([15] ++ natLE 4 4197277 ++ [5]) s)).mgmt.inHand = some ⟨77, .memWriteBlocked 4197277 [5]⟩ ∧
    newest (does .memWrite (asked ([15] ++ natLE 4 8421375 ++ [5]) s)) = some (bytes [15, 6]) := by decide +kernel

theorem test_memWriteResume : (does .memWriteResume (holding (.memWriteBlocked 4197277 [5]) (tabled (inService .active)))).mem.mgmt =
    some (.write 4197277 [5]) := by decide +kernel

/-- Record 10 of the worked lookup sequence (3.9). -/
def record10 : CellRecord := ⟨false, ⟨16, 3, 1⟩, false, false, [46, 700],
  [⟨46, .a, 7001, ⟨17500120, 3999950, 1500030⟩, 250, 3, .auto, .open, 255, 0⟩,
   ⟨700, .b, 7003, ⟨17100000, 4000000, 1500000⟩, 250, 3, .auto, .captured, 1, 118⟩]⟩

/-- The table with record 10 in place. -/
def cached (s : State) : State :=
  { tabled s with lookup := { (tabled s).lookup with records := (List.replicate 32 none).set 10 (some record10) } }

theorem test_purgeCell : (does .purgeCell (asked (bytes [16, 16, 0, 3, 0, 1, 0]) (cached (inService .active)))).lookup.records =
    List.replicate 32 none := by decide +kernel

theorem test_purgeAll : (does .purgeAll (asked (bytes [17]) (cached (inService .active)))).lookup.records =
    List.replicate 32 none := by decide +kernel

/-- 3.9, step 8: the cached record is pinned at once; its index, incomplete and overflow marks are answered. -/
theorem test_pinCell : let t := does .pinCell (asked (bytes [18, 16, 0, 3, 0, 1, 0]) (cached (inService .active)))
    t.lookup.pinCount = 1 ∧ newest t = some (bytes [18, 0, 10, 0, 0]) := by decide +kernel

/-- The management charge free again, the waiting pin starts its walk at the hashed bucket. -/
theorem test_pinCellResume : (does .pinCellResume (holding (.pinForCharge ⟨16, 3, 1⟩) (tabled (inService .active)))).mem.walkQueue =
    [⟨.management, 46, 4197248⟩] := by decide +kernel

theorem test_unpinCell : newest (does .unpinCell (asked (bytes [19, 16, 0, 3, 0, 1, 0]) (cached (inService .active)))) =
    some (bytes [19, 0, 0]) := by decide +kernel

/-- 4.9, reopening: the waiting entry and record 10's point take not captured, 255, 0. -/
theorem test_pointState : let s := { cached (inService .active) with
      capture := { Capture.reset with writeback := [⟨46, .a, true, true, 0, 57, .waiting⟩] } }
    let t := does .pointState (asked (bytes [20, 46, 0, 0, 0]) s)
    t.capture.writeback = [⟨46, .a, true, false, 255, 0, .waiting⟩] ∧ newest t = some (bytes [20, 0]) := by decide +kernel

theorem test_pointStateResume : (does .pointStateResume (holding (.pointBlocked 46 .a .open) (cached (inService .active)))).mem.mgmt =
    some (.point ⟨46, .a, true, some false, some 255, some 0⟩) := by decide +kernel

theorem test_headModeEnable : let t := does .headModeEnable (asked (bytes [21, 3, 0]) (headIn .h3 .disabled State.reset))
    (t.ctx.get .h3).state = .offline ∧ t.report.headSlots.get .h3 = some ⟨.state .disabled .offline .enable, false⟩ := by
  decide +kernel

theorem test_headModeDisable : ((does .headModeDisable (asked (bytes [21, 3, 1]) (headIn .h3 .locked State.reset))).ctx.get .h3).state =
    .disabled := by decide +kernel

/-- R51: an AIM is taken only by a LOST context in ACTIVE or HOLD. -/
theorem test_headModeAim : let p := bytes [21, 0, 2] ++ natLE 4 16777217 ++ intLE 4 9000000
    ((does .headModeAim (asked p (expired .h0 7 7 (headIn .h0 .lost (inService .active))))).ctx.get .h0).search.map
      (fun q => (q.centreAz, q.centreEl)) = some (1, 4194304) ∧
    newest (does .headModeAim (asked p (inService .active))) = some (bytes [21, 3]) := by decide +kernel

theorem test_clearFault : let s := { State.reset with partFault := ⟨some ⟨.refLost, 50000000, 3⟩, [.badLink]⟩ }
    (does .clearFault (asked (bytes [22, 255]) s)).partFault = ⟨none, []⟩ := by decide

/-- R130: from START, INIT with a settle phase of 20,000 ticks. -/
theorem test_setServiceActive : let t := does .setServiceActive (asked (bytes [23, 0]) State.reset)
    t.service = .init ∧ t.mem.state = .initializing ∧ t.mem.initPhase = some (.settle 20000) ∧ newest t = none := by decide

theorem test_setServiceHold : (does .setServiceHold (asked (bytes [23, 1]) (inService .active))).service = .hold ∧
    newest (does .setServiceHold (asked (bytes [23, 1]) State.reset)) = some (bytes [23, 3]) := by decide +kernel

/-- 10.5: STANDBY begins QUIESCING, with the contexts PARKED and the quiesce mark set. -/
theorem test_setServiceStandby : let s := expired .h0 7 7 (headIn .h0 .locked (inService .active))
    let t := does .setServiceStandby (asked (bytes [23, 2]) s)
    t.service = .quiescing ∧ t.mem.quiesce = true ∧ (t.ctx.get .h0).state = .parked := by decide +kernel

theorem test_setServiceWake : (does .setServiceWake (asked (bytes [23, 3]) (inService .standby))).service = .waking := by decide

theorem test_restart : (does .restart (asked (bytes [24]) (inService .hold))).restartMark = true ∧
    newest (does .restart (asked (bytes [24]) State.reset)) = some (bytes [24, 3]) := by decide +kernel

/-- R188: a soft restart empties the fault records and keeps the timebase. -/
theorem test_restartProper : let s := holding .restart { inService .hold with
      restartMark := true, time := { TimeBase.reset with timebase := 500 }, partFault := ⟨some ⟨.refLost, 1, 1⟩, []⟩ }
    let t := does .restartProper s
    t.service = .active ∧ t.partFault = ⟨none, []⟩ ∧ t.time.timebase = 500 ∧ newest t = some (bytes [24, 0]) := by decide +kernel

/-- 5.7, epoch 2. -/
theorem test_syncEpoch : let s := { State.reset with time := { TimeBase.reset with
      timebase := 200000, nextEpoch := 200000, syncIndex := 1, pendingSync := some ⟨50000, ⟨0, 25000, 60000, 75000⟩⟩ } }
    let t := does .syncEpoch s
    t.headTime.map HeadTime.effPhase = ⟨0, 25000, 10000, 25000⟩ ∧ t.time.nextEpoch = 250000 ∧ t.time.syncIndex = 2 ∧
    (t.headTime.get .h1).expiry = some ⟨2, 225000⟩ := by decide +kernel

/-- A head whose expiry is due, in a context state with a timer. -/
def dueAt (n : Head) (c : Context) (s : State) : State :=
  { s with ctx := s.ctx.set n c, headTime := s.headTime.set n { s.headTime.get n with expiry := some ⟨1002, 0⟩ } }

/-- 2.9, expiry 1,002: the prediction over a gap of 2. -/
theorem test_syncExpiry : let c := { Context.reset with
      state := .coasting, timer := 3, heard := true, newest := some ⟨5000000, 300000, 1000⟩, velAz := 600, velEl := -100 }
    let t := does (.syncExpiry .h1) (dueAt .h1 c (inService .active))
    (t.ctx.get .h1).predicted = some (5001200, 299800) ∧ (t.ctx.get .h1).timer = 2 := by decide +kernel

theorem test_silenceLimit : let c := { Context.reset with state := .lost, silence := 19 }
    let t := does (.silenceLimit .h1) (dueAt .h1 c (inService .active))
    (t.ctx.get .h1).state = .offline ∧ (t.headFaults.get .h1).first.map FirstFault.kind = some .linkSilent := by decide +kernel

/-- 2.9, expiry 1,004, here with the gap of 2: the search centre is the prediction and ring 1 begins. -/
theorem test_coastLimit : let c := { Context.reset with
      state := .coasting, timer := 1, heard := true, newest := some ⟨5000000, 300000, 1000⟩, velAz := 600, velEl := -100 }
    let t := does (.coastLimit .h1) (dueAt .h1 c (inService .active))
    (t.ctx.get .h1).state = .searching ∧ (t.ctx.get .h1).search.map SearchRecord.angles = some (5002000, 299800) := by
  decide +kernel

/-- 2.9, expiry 1,005: from offset (1, 0) to (1, 1). -/
theorem test_searchDwellEnd : let c := { Context.reset with
      state := .searching, timer := 1, heard := true, search := some ⟨5002400, 299600, 800, 1, 1, 1, 1, false⟩ }
    ((does (.searchDwellEnd .h1) (dueAt .h1 c (inService .active))).ctx.get .h1).search.map SearchRecord.angles =
      some (5003200, 300400) := by decide +kernel

/-- 2.9, expiry 1,133: the anchor of 14,154,380. -/
theorem test_settleExpiry : let c := { Context.reset with
      state := .settling, timer := 1, heard := true, attempts := 2, latest := some ⟨1132, 0, 0, 14250380, true, 1200000⟩ }
    let t := does (.settleExpiry .h1) (dueAt .h1 c (inService .active))
    (t.ctx.get .h1).state = .locked ∧ (t.measure.get .h1).anchor = 14154380 := by decide +kernel

/-- 5.7: the record runs out at the expiry that finds one period left. -/
theorem test_triggerExpired : let s := dueAt .h2 Context.reset (inService .active)
    let t := does (.triggerExpired .h2) { s with
      headTime := s.headTime.set .h2 { s.headTime.get .h2 with trigger := some ⟨205000, 2, 1⟩ } }
    (t.headTime.get .h2).trigger = none ∧ t.report.headSlots.get .h2 = some ⟨.triggerExpired 2 205000, false⟩ := by
  decide +kernel

theorem test_syncPulseEnd : let s := { State.reset with
      headTime := State.reset.headTime.set .h0 { HeadTime.reset with pulseEnd := some 0 } }
    ((does (.syncPulseEnd .h0) s).headTime.get .h0).pulseEnd = none := by decide

/-- 5.7: an edge at 205,000 with current index 2 and a window of 3; a second finds the record PENDING. -/
theorem test_triggerEdge : let s := { inService .active with
      time := { TimeBase.reset with timebase := 205000, syncIndex := 2 }
      headTime := State.reset.headTime.set .h2 { HeadTime.reset with window := 3 } }
    let t := does (.triggerEdge .h2) s
    (t.headTime.get .h2).trigger = some ⟨205000, 2, 3⟩ ∧
    ((does (.triggerEdge .h2) t).headFaults.get .h2).first.map (fun f => (f.kind, f.detail)) = some (.triggerOverrun, 2) := by
  decide +kernel

/-- 5.8: the reference becomes good in FREE. -/
theorem test_referenceEdge : let s := { State.reset with time := { TimeBase.reset with timebase := 1000000, lastEdge := some 999990 } }
    (does .referenceEdge s).time.refState = .acquiring ∧ (does .referenceEdge s).report.partSlot = none := by decide

/-- 5.8: a loss in ACQUIRING before any lock. -/
theorem test_referenceTimeout : let s := { State.reset with
      time := { TimeBase.reset with timebase := 112, lastEdge := some 100, present := true, refState := .acquiring } }
    (does .referenceTimeout s).time.refState = .free := by decide

/-- 5.8: the first lock. -/
theorem test_lockUpComplete : let s := { State.reset with
      time := { TimeBase.reset with timebase := 2048576, present := true, refState := .acquiring, lockUp := 1048576 } }
    (does .lockUpComplete s).report.partSlot = some ⟨.timeQuality .free .locked 2048576, false⟩ ∧
    (does .lockUpComplete s).time.onceLocked = true := by decide

/-- 4.9: the sample of index 2,004, with a copy of record 10. -/
def sample2004 : MeasuredSample :=
  ⟨2004, 777, 0, 0, some 5, some ⟨⟨17500004, 3999996, 1499999⟩, 4⟩, SampleFlags.none, 0, false, 0, .locked⟩
def attempt2004 : Attempt := ⟨.h0, ⟨sample2004, .record record10⟩, record10.points.getD 0 ⟨0, .a, 0, ⟨0, 0, 0⟩, 0, 1, .auto, .open, 0, 0⟩⟩
/-- Head 0's settle queue at the attempt of 4.9. -/
def queue2004 : SettleQueue := ⟨[⟨2002, ⟨17500000, 4000000, 1500000⟩, true⟩, ⟨2003, ⟨17500003, 4000010, 1500004⟩, true⟩,
  ⟨2004, ⟨17500004, 3999996, 1499999⟩, true⟩], some ⟨46, .a, 7001⟩, some 4⟩
def attempting : State :=
  { cached (inService .active) with
    settle := State.reset.settle.set .h0 queue2004, capture := ⟨[], some 57, none, [attempt2004]⟩ }

/-- 4.9: capture 57, with its means and deviations. -/
theorem test_captureAttempt : let t := does .captureAttempt attempting
    t.capture.nextNumber = some 58 ∧ t.capture.writeback = [⟨46, .a, true, true, 0, 57, .waiting⟩] ∧
    newest t = some ([57, 0, 0, 0, 0, 0] ++ natLE 2 7001 ++ [46, 0] ++ natLE 2 2004 ++ natLE 8 777 ++ [0, 3] ++
      natLE 4 17500002 ++ natLE 4 4000002 ++ natLE 4 1500001 ++ intLE 2 (-118) ++ intLE 2 52 ++ intLE 2 (-29) ++ [4, 0]) := by
  decide +kernel

/-- 4.9, head 2: the update is answered STALE, the number stays unused and the place is released. -/
theorem test_captureAttempt_stale : let s := { attempting with
      lookup := { attempting.lookup with records := (List.replicate 32 none).set 10 (some { record10 with
        points := record10.points.map fun p => { p with state := .captured } }) } }
    let t := does .captureAttempt s
    t.capture.nextNumber = some 57 ∧ t.settle.get .h0 = ⟨[], none, none⟩ ∧ t.report.queue = [] ∧ t.report.reserved = 0 := by
  decide +kernel

theorem test_refreshExpiry : let s := { inService .active with mem := { (inService .active).mem with nextRefresh := some 0, owed := 7 } }
    (does .refreshExpiry s).mem.owed = 8 ∧ (does .refreshExpiry s).mem.nextRefresh = some 800 := by decide

/-- 6.9, time 0: W1's bucket 46 is granted, bank 0 is closed, 40 ns, row 513 is left open. -/
theorem test_memoryGrant : let s := tabled (inService .active)
    let t := does .memoryGrant { s with mem := { s.mem with walkQueue := [⟨.head .h0, 46, 4197248⟩] } }
    t.mem.running = some ⟨.walk ⟨.head .h0, 46, 4197248⟩, 0, 40⟩ ∧ t.mem.openRows = [some 513, none, none, none] := by
  decide +kernel

/-- Table memory that holds bytes from an address on. -/
def holds (a : Nat) (l : List Nat) (s : State) : State := { s with cells := (List.range l.length).map fun i => (a + i, byteOf (l.getD i 0)) }

/-- A walk of head 0 for cell (16, 3, 1) at bucket 46 (3.9, step 3). -/
def walkW1 : Walk := ⟨.head .h0, ⟨16, 3, 1⟩, [.h0], false, [], [], false, some 46, false, false⟩

/-- 3.9, step 3: bucket 46's next index of 700 is read next. Its slots are empty here. -/
theorem test_walkReadDone : let s := tabled (inService .active)
    let t := does .walkReadDone (running (.walk ⟨.head .h0, 46, 4197248⟩)
      (holds 4197248 (List.replicate 60 0 ++ [188, 2, 0, 0]) { s with lookup := { s.lookup with walks := [walkW1] } }))
    t.mem.walkQueue = [⟨.head .h0, 700, 4239104⟩] ∧ t.lookup.walks.map Walk.visited = [[46]] := by decide +kernel

theorem test_pendingStartRetry : let s := tabled (inService .active)
    let t := does (.pendingStartRetry .h0) { s with waiting := s.waiting.set .h0 (some ⟨{ sample2004 with
      block := some ⟨⟨17500000, 4000000, 1500000⟩, 4⟩ }, true⟩) }
    t.lookup.walks = [walkW1] ∧ t.waiting.get .h0 = some ⟨{ sample2004 with
      block := some ⟨⟨17500000, 4000000, 1500000⟩, 4⟩ }, false⟩ := by decide +kernel

/-- 3.9, step 9: the re-walk W2. -/
theorem test_rewalkStart : let s := tabled (inService .active)
    let t := does .rewalkStart { s with lookup := { s.lookup with rewalk := [⟨16, 3, 1⟩] } }
    t.lookup.rewalk = [] ∧
    t.lookup.walks = [⟨.management, ⟨16, 3, 1⟩, [], true, [], [], false, some 46, false, false⟩] := by decide +kernel

/-- R99: the status marks and bytes 24 to 28 of slot A of bucket 46, captured by head 0 with number 57. -/
theorem test_writebackDone : let s := tabled (inService .active)
    let t := does .writebackDone (running (.writeback 46 .a) (holds 4197248 (List.replicate 30 0)
      { s with capture := { s.capture with writeback := [⟨46, .a, true, true, 0, 57, .writing⟩] } }))
    t.capture.writeback = [] ∧ t.readByte 4197248 = 6 ∧ t.readByte 4197273 = 57 := by decide +kernel

/-- 4.10, step 3. -/
theorem test_spillWriteDone : let s := tabled (inService .active)
    let t := does .spillWriteDone (running (.spill (.write 0))
      { s with spill := { s.spill with count := 1, writePos := 1, writes := [⟨0, [58]⟩] } })
    t.spill.writes = [] ∧ t.readByte 8388608 = 58 ∧ t.readByte 8388671 = 0 := by decide +kernel

/-- 4.10, step 4: one drain read, with a reserved place. -/
theorem test_drainReadStart : let s := tabled (inService .active)
    let t := does .drainReadStart { s with spill := { s.spill with count := 2, writePos := 2, writes := [⟨1, []⟩] } }
    t.spill.drains = [⟨0, none⟩] ∧ t.report.reserved = 1 ∧ (does .drainReadStart t).spill.drains = [⟨0, none⟩] := by decide +kernel

/-- 4.10, step 7: frame 59 waits for position 0; steps 8: both enter, 58 first. -/
theorem test_drainReadDone : let s := holds 8388608 ((58 :: List.replicate 63 0) ++ (59 :: List.replicate 63 0)) (tabled (inService .active))
    let s := { s with
      report := { s.report with reserved := 2 }
      spill := { s.spill with count := 3, writePos := 3, drains := [⟨0, none⟩, ⟨1, none⟩] } }
    let t := does .drainReadDone (running (.spill (.read 1)) s)
    let u := does .drainReadDone (running (.spill (.read 0)) t)
    t.report.queue = [] ∧ u.report.queue.map (fun f => f.payload.getD 0 0) = [58, 59] ∧ u.spill.readPos = 2 ∧
    u.spill.count = 1 := by decide +kernel

theorem test_memReadDone : newest (does .memReadDone (running (.mgmt (.read 20480 3)) (holding (.memRead 20480 3)
      (holds 20480 [7, 8, 9] (inService .active))))) = some (bytes [5, 0, 7, 8, 9]) := by decide +kernel

/-- 3.9, step 9: the write overlaps bucket 700, so record 10 becomes invalid; pinned, its key goes to the re-walk list. -/
theorem test_memWriteDone : let s := cached (inService .active)
    let t := does .memWriteDone (running (.mgmt (.write 4239104 (List.replicate 16 1))) (holding (.memWrite 4239104 (List.replicate 16 1))
      { s with lookup := { s.lookup with records := (List.replicate 32 none).set 10 (some { record10 with pinned := true }) } }))
    t.lookup.records = List.replicate 32 none ∧ t.lookup.rewalk = [⟨16, 3, 1⟩] ∧ t.readByte 4239119 = 1 := by decide +kernel

theorem test_pointStateWriteDone : let s := holds 4197248 (List.replicate 30 6) (cached (inService .active))
    let t := does .pointStateWriteDone (running (.mgmt (.point ⟨46, .a, true, some false, some 255, some 0⟩))
      (holding (.pointWrite 46 .a) s))
    t.readByte 4197248 = 2 ∧ t.readByte 4197272 = 255 ∧ newest t = some (bytes [20, 0]) := by decide +kernel

theorem test_refreshDone : let s := inService .active
    (does .refreshDone (running .refresh { s with mem := { s.mem with openRows := [some 1, none, some 2, none] } })).mem.openRows =
      [none, none, none, none] := by decide

theorem test_initSettleEnd : let s := { State.reset with
      time := { TimeBase.reset with timebase := 20000 }
      mem := { MemCtl.reset with state := .initializing, initPhase := some (.settle 20000) } }
    (does .initSettleEnd s).mem.initPhase = some (.refreshing 8 20000) := by decide

/-- 9.9, tag 23: the last first refresh brings ACTIVE and the answer. -/
theorem test_initRefreshDone : let s := holding .setActive { State.reset with
      service := .init, mem := { MemCtl.reset with state := .initializing, initPhase := some (.refreshing 1 0) } }
    (does .initRefreshDone s).service = .active ∧ newest (does .initRefreshDone s) = some (bytes [23, 0]) := by decide +kernel

theorem test_selfRefreshEntry : let s := holding .setStandby (inService .quiescing)
    (does .selfRefreshEntry { s with mem := { s.mem with quiesce := true } }).mem.state = .selfRefresh := by decide +kernel

/-- 10.5: the wake leaves the PARKED contexts LOST with cause WAKE. -/
theorem test_selfRefreshExitDone : let s := headIn .h0 .parked (holding .setWake (inService .waking))
    let t := does .selfRefreshExitDone { s with mem := { s.mem with state := .exiting, exitBegan := some 0 } }
    (t.ctx.get .h0).state = .lost ∧ t.report.headSlots.get .h0 = some ⟨.state .parked .lost .wake, false⟩ ∧ t.mem.owed = 1 := by
  decide +kernel

/-- 8.7, step 11: the pointer at head 0 wraps to the part slot and moves on to head 0. -/
theorem test_eventSlotTaken : let s := { inService .active with report := { Report.reset with
      visiting := some .h0, partSlot := some ⟨.timeQuality .free .locked 7, true⟩ } }
    (does .eventSlotTaken s).report.partSlot = none ∧ (does .eventSlotTaken s).report.visiting = some .h0 ∧
    (does .eventSlotTaken s).report.queue.length = 1 := by decide +kernel

theorem test_heldAnswerEntry : let f : ReportFrame := ⟨.answer 3, [17, 0]⟩
    (does .heldAnswerEntry { State.reset with mgmt := ⟨none, some f⟩ }).report.queue = [f] := by decide

/-- 7.8, step 2: P1 ends and H1 is chosen, the other source. -/
theorem test_uplinkTxEnd : let q : List ReportFrame := [⟨.position, [1]⟩, ⟨.capture, [57]⟩]
    let s := { State.reset with
      report := { Report.reset with queue := q }
      uplink := { Uplink.reset with
        up := true, forward := [[9]], reportTag := 41, servedReport := true, sending := some ⟨.report, [1]⟩ } }
    let t := does .uplinkTxEnd s
    t.report.queue = [⟨.capture, [57]⟩] ∧ t.uplink.sending = some ⟨.forward, [9]⟩ ∧ t.uplink.servedReport = false ∧
    t.uplink.reportTag = 41 := by decide +kernel

/-- 7.8: the Steer goes out as soon as the command ends, ahead of a further Head Command. -/
theorem test_headTxEnd : let q : HeadPort := ⟨true, 0, [[8]], some ⟨5, [1]⟩, 6, some [7]⟩
    let p := (does (.headTxEnd .h2) { State.reset with ports := State.reset.ports.set .h2 q }).ports.get .h2
    p.steer = none ∧ p.forward = [[8]] ∧ p.sending = some (buildFrame 3 3 0 5 0 [1]) := by decide +kernel

/-! ### Witnesses: states and operands that meet the hypotheses of each statement -/

/-- A state with a command in front of its queue and another behind. -/
def queued : State := { inService .active with pending := [.triggerEdge .h0, .hardReset] }

theorem witness_StepRunsFrontCommand : queued.pending = .triggerEdge .h0 :: [.hardReset] := rfl
/-- Nothing due, one step due, and two. -/
theorem witness_StepRunsFrontCommand_idle : let at_ (now : Nat) : State := { State.reset with time := { TimeBase.reset with timebase := now } }
    State.reset.pending = [] ∧ State.reset.due = [] ∧ (at_ 100000).pending = [] ∧ (at_ 100000).due = [.syncEpoch] ∧
    (asked [24] (at_ 100000)).pending = [] ∧ 2 ≤ (asked [24] (at_ 100000)).due.length := by decide +kernel

/-- The six invariants' premises, together: a safe state and a step with a next state. -/
theorem witness_StepKeeps : safe queued = true ∧ memoryCanonical queued = true ∧ reportBounded queued = true ∧
    buffersBounded queued = true ∧ settingsLegal queued = true ∧ referenceLegal queued = true ∧
    cacheConsistent queued = true := by decide +kernel
theorem witness_StepKeeps_next : step queued = .next (after (step queued)) := rfl

theorem witness_TimebaseCountsTicks : queued.time.timebase ≤ 18446744073709551615 ∧ (∀ rest, queued.pending ≠ Instr.hardReset :: rest) ∧
    step queued = .next (after (step queued)) ∧ exec .hardReset State.reset = .next (does .hardReset State.reset) ∧
    exec .lockUpComplete State.reset = .next (does .lockUpComplete State.reset) :=
  ⟨by decide, by simp [queued], rfl, rfl, rfl⟩
/-- A tick while ACQUIRING with the reference present. -/
theorem witness_TimebaseCountsTicks_acquiring :
    let s := { State.reset with time := { TimeBase.reset with refState := .acquiring, present := true, lastEdge := some 0, lockUp := 7 } }
    s.pending = [] ∧ s.due = [] ∧ (after (step s)).time.timebase = 1 ∧ (after (step s)).time.lockUp = 8 := by decide +kernel

theorem witness_EncoderErrorInterpolates : (0 : Int) ≤ 0 ∧ (0 : Int) ≤ 16777215 ∧ (16777215 : Int) < 16777216 ∧
    (table 255 (-32768) 0 32767).length = 256 ∧ ∀ e ∈ table 255 (-32768) 0 32767, -32768 ≤ e ∧ e ≤ 32767 := by decide +kernel

theorem witness_CorrectedAnglesInRange : 0 ≤ 15 ∧ 15 ≤ 15 := by decide

theorem witness_QuarterSineInterpolates : 4194303 < 4194304 ∧ 4194303 ≤ 4194304 ∧ 0 ≤ 4194304 ∧
    1024 ≤ 1024 := by decide

theorem witness_SineByQuadrant : 4194303 < 4194304 ∧ 0 < 4194304 := by decide

theorem witness_StationPositionBounded : (0 : Int) ≤ 120000000 ∧ (-4194304 : Int) ≤ -4194304 ∧ (4194304 : Int) ≤ 4194304 := by decide

theorem witness_MeasuredSampleFollowsStages : (measureSample case1 .adm 0 (raw 1 50)).dist = some 0 ∧
    (measureSample case1 .interferometer 0 (raw 1 50)).dist = some 12000000 := by decide +kernel

theorem witness_CellKeyAndBucketAddress : 16 ≤ 16 ∧ 22 ≤ 22 ∧ 0 < 1 ∧ (-2147483648 : Int) ≤ -2147483648 ∧
    (2147483647 : Int) ≤ 2147483647 := by decide

theorem witness_NearestPointIsNearest : (nearestPoint ⟨17500000, 4000000, 1500000⟩ record10.points).map Point.id = some 7001 ∧
    nearestPoint ⟨0, 0, 0⟩ [] = none ∧ (∀ p ∈ record10.points, p.state ≠ .disabled) := by decide +kernel

theorem witness_MeanRoundsToNearest : 0 < 2 ∧ (0 : Int) < 21 ∧ (-21 : Int) < 0 ∧ 2 * (2 * meanOf 21 2 - 21) = 2 ∧
    2 * (2 * meanOf (-21) 2 - -21) = -2 ∧ ([10, 11] : List Int) ≠ [] ∧ ∀ x ∈ ([10, 11] : List Int), 10 ≤ x ∧ x ≤ 11 := by decide

theorem witness_BuiltFramesAreGood : 255 < 256 ∧ natAt 2 1 (buildFrame 0 0 255 0 0 []) = 255 ∧ (List.replicate 60 (0 : Byte)).length ≤ 60 := by decide

/-- The largest and the least values of a Sample payload. -/
theorem witness_SamplePayloadReadsBack :
    sampleLegal ⟨65535, 16777215, 8388607, 2147483647, 4294967295, 32767, 32767, 255, true, true⟩ = true ∧
    sampleLegal ⟨0, 0, -8388608, -2147483648, 0, -32768, -32768, 0, false, false⟩ = true := by decide

theorem witness_RequestParametersReadBack : 255 < 256 ∧ signedVec 32 ⟨-2147483648, 2147483647, 0⟩ = true ∧
    signedVec 16 ⟨-32768, 32767, 0⟩ = true ∧ 1 ≤ (List.replicate 24 (32767 : Int)).length ∧
    (List.replicate 24 (32767 : Int)).length ≤ 24 ∧ (∀ e ∈ List.replicate 24 (32767 : Int), -32768 ≤ e ∧ e ≤ 32767) ∧
    4294967295 < 4294967296 := by decide

/-- A head port and an uplink that are UP and idle. -/
def idlePort : HeadPort := ⟨true, 0, [[8], [9]], some ⟨255, [1]⟩, 0, none⟩
def idleUplink : Uplink := ⟨true, 0, [[9]], [], 255, true, none⟩

theorem witness_TransmittersChoose : HeadPort.reset.up = false ∧ { idlePort with sending := some [1] }.sending ≠ none ∧
    idlePort.up = true ∧ idlePort.sending = none ∧ idlePort.steer = some ⟨255, [1]⟩ ∧
    { idlePort with steer := none }.forward = [8] :: [[9]] ∧ Uplink.reset.up = false ∧
    { idleUplink with sending := some ⟨.report, []⟩ }.sending ≠ none ∧ idleUplink.up = true ∧ idleUplink.sending = none ∧
    idleUplink.forward = [9] :: [] ∧ idleUplink.servedReport = true ∧ { idleUplink with servedReport := false }.servedReport = false ∧
    (⟨.answer 3, []⟩ : ReportFrame).kind = .answer 3 ∧
    (∀ k ∈ [ReportKind.position, .capture, .event], ∃ code ∈ [7, 8, 9], (k, code) ∈ [(ReportKind.position, 7), (.capture, 8), (.event, 9)]) := by
  decide +kernel

theorem witness_AccessTouchesItsBankRows : 67108863 < 67108864 ∧ bankOf 8192 20480 = bankOf 8192 20480 ∧ 67108800 % 64 = 0 ∧
    0 < 1 ∧ 63 + 1 ≤ 64 ∧ 64 ≤ 64 ∧ 63 < 64 := by decide

theorem witness_GrantsEndWithin400ns : timingLegal ⟨10, 10, 10, 60, 100⟩ = true ∧ timingLegal ⟨60, 60, 80, 350, 1000⟩ = true ∧
    Lookup.reset.base % 64 = 0 ∧ 513 ≠ 1024 := by decide

theorem witness_VelocityFromLockedPair : 0 < 1 := by decide

theorem witness_SearchVisitsSquareRings : let q : SearchRecord := ⟨0, 0, 800, 32, 1, 1, 1, false⟩
    1 ≤ 32 ∧ 1 ≤ 256 ∧ 256 ≤ 8 * 32 ∧ 64 ≤ 2 * 32 ∧ q.ring = 1 ∧ q.pos = 1 ∧ 1 ≤ q.rings ∧ 0 < 4 * q.rings * (q.rings + 1) ∧
    { q with ring := 0 }.ring = 0 := by decide

/-- A MGMT request and a walk wait. -/
def contending : State :=
  { inService .active with mem := { (inService .active).mem with
    walkQueue := [⟨.head .h0, 46, 4197248⟩], mgmt := some (.read 20480 48), owed := 7 } }

theorem witness_GrantFollowsOrder : 8 ≤ { contending.mem with owed := 8 }.owed ∧ contending.mem.owed < 8 ∧
    contending.firstRequest .walk = some (.walk ⟨.head .h0, 46, 4197248⟩) ∧
    requesterOrder contending.mem.x1 contending.mem.x2 contending.mem.x3 = [] ++ Requester.walk :: [.writeback, .spill, .mgmt] ∧
    (inService .active).mem.owed < 8 := by decide
theorem witness_GrantFollowsOrder_idle : ∀ q, (inService .active).firstRequest q = none := by intro q; cases q <;> rfl

/-! Frames. -/

theorem witness_DiscardedFramesCounted : frameBad (bytes [1]) = true ∧ frameBad (buildFrame 7 5 4 0 0 []) = false ∧
    ¬(frameKind (buildFrame 7 5 4 0 0 []) = 1 ∧ frameDest (buildFrame 7 5 4 0 0 []) = 0 ∧ frameLength (buildFrame 7 5 4 0 0 []) = 22) ∧
    ¬(frameKind (buildFrame 7 5 4 0 0 []) = 2 ∧ frameDest (buildFrame 7 5 4 0 0 []) = 5) ∧
    ¬(frameKind (buildFrame 7 5 4 0 0 []) = 5 ∧ frameDest (buildFrame 7 5 4 0 0 []) = 0) ∧
    ¬(frameKind (buildFrame 7 5 4 0 0 []) = 4 ∧ 1 ≤ frameDest (buildFrame 7 5 4 0 0 []) ∧ frameDest (buildFrame 7 5 4 0 0 []) ≤ 4) := by
  decide +kernel

theorem witness_StatusAndRequestsBuffered : let f := buildFrame 2 5 1 0 0 []; let g := buildFrame 5 0 5 31 0 [17]
    frameBad f = false ∧ frameKind f = 2 ∧ frameDest f = 5 ∧ frameBad g = false ∧ frameKind g = 5 ∧ frameDest g = 0 := by
  decide +kernel

theorem witness_HeadCommandForwarded : let f := buildFrame 4 4 5 0 1 []
    frameBad f = false ∧ frameKind f = 4 ∧ frameDest f = headNumber .h3 + 1 := by decide +kernel

/-- A LOCKED head 1 in ACTIVE after its expiry 1,001, with locked samples before. -/
def lockedHead : State :=
  expired .h1 1001 5 { inService .active with ctx := State.reset.ctx.set .h1 { Context.reset with
    state := .locked, lastIndex := some 1000, newest := some ⟨5000000, 300000, 1000⟩ } }

theorem witness_SampleDiscarded : let f := sampleOf .h1 (raw 999 90)
    frameBad f = false ∧ frameKind f = 1 ∧ frameDest f = 0 ∧ frameLength f = 22 ∧ (decodeSample (framePayload f)).index = 999 ∧
    ¬samplesTaken State.reset .h1 ∧ samplesTaken lockedHead .h1 := by decide +kernel
theorem witness_SampleDiscarded_index : ¬indexPasses lockedHead .h1 999 := by
  rintro ⟨e, he, h⟩
  obtain rfl : ⟨1001, 5, 100000⟩ = e := by simpa [lockedHead, expired, PerHead.get, PerHead.set] using he
  rcases h with ⟨h, -⟩ | ⟨h, -, -⟩ <;> exact absurd h (by decide)

theorem witness_AcceptedSampleMovesContext : let f := sampleOf .h1 (raw 1001 90)
    frameBad f = false ∧ frameKind f = 1 ∧ frameDest f = 0 ∧ frameLength f = 22 ∧ (decodeSample (framePayload f)).index = 1001 ∧
    (lockedHead.headTime.get .h1).history.getLast? = some ⟨1001, 5, 100000⟩ ∧ samplesTaken lockedHead .h1 := by decide +kernel
theorem witness_AcceptedSampleMovesContext_index : indexPasses lockedHead .h1 1001 :=
  ⟨⟨1001, 5, 100000⟩, rfl, .inl ⟨rfl, by decide⟩⟩
/-- The clauses of the timestamp: an index held, and the one before a history of one entry, whose notional time is below 0
where a long period was applied at the first epoch (log 36). -/
theorem witness_AcceptedSampleMovesContext_time :
    let s := { expired .h1 1 100000 (inService .active) with
      headTime := (inService .active).headTime.set .h1 { HeadTime.reset with history := [⟨1, 100000, 1000000⟩] } }
    (s.headTime.get .h1).history.find? (fun x => x.index = 1) = some ⟨1, 100000, 1000000⟩ ∧
    (s.headTime.get .h1).history.find? (fun x => x.index = 0) = none ∧
    (s.headTime.get .h1).history.head? = some ⟨1, 100000, 1000000⟩ ∧ samplesTaken s .h1 ∧ (s.ctx.get .h1).lastIndex = none ∧
    (s.measured .h1 (raw 1 50)).timestamp = 100000 ∧ (s.measured .h1 (raw 0 50)).timestamp = -900000 := by decide +kernel
/-- The clauses of the state: unchanged in LOCKED without a slip, and changed without one from LOCKED to COASTING. -/
theorem witness_AcceptedSampleMovesContext_state :
    let after_ (i : Nat) := contextAfter (lockedHead.ctx.get .h1) (lockedHead.settings.get .h1)
      (lockedHead.measured .h1 (raw 1001 i)) (decide (40 ≤ i)) (slips (lockedHead.settings.get .h1) (lockedHead.measured .h1 (raw 1001 i)))
    (after_ 90).state = (lockedHead.ctx.get .h1).state ∧ (after_ 39).state = .coasting := by decide +kernel
/-- The clause of a slip: a LOCKED sample whose ADM differs from the distance by more than the slip limit. -/
theorem witness_AcceptedSampleMovesContext_slip :
    (lockedHead.headFaults.get .h1).first = none ∧ (lockedHead.ctx.get .h1).state = .locked ∧
    (let r := { raw 1001 90 with admValid := true, adm := 201 }
     slips (lockedHead.settings.get .h1) (lockedHead.measured .h1 r) = true ∧
     (contextAfter (lockedHead.ctx.get .h1) (lockedHead.settings.get .h1) (lockedHead.measured .h1 r) true true).state = .settling ∧
     slips (lockedHead.settings.get .h1) (lockedHead.measured .h1 { r with adm := 200 }) = false) := by decide +kernel

/-- R4's table of distance sources: a LOCKED context, the others with a return, and no return. -/
theorem test_distance_source : distanceSource .locked true false = .interferometer ∧
    (∀ st ∈ [CtxState.settling, .coasting, .searching, .lost, .offline],
      distanceSource st true true = .adm ∧ distanceSource st true false = .none) ∧
    distanceSource .locked false true = .none := by decide

/-- The measured sample of worked case 1 (key (16, 3, 1)). -/
def onPoint (i : Nat) : MeasuredSample :=
  ⟨i, 777, 0, 0, some 5, some ⟨⟨17500000, 4000000, 1500000⟩, 4⟩, SampleFlags.none, 0, false, 0, .locked⟩

/-- A table whose only walk is W1. -/
def walking : State := { tabled (inService .active) with
  lookup := { (tabled (inService .active)).lookup with walks := [walkW1] } }

theorem witness_SampleLookedUp : (cached (inService .active)).waiting.get .h2 = none ∧
    { onPoint 1 with block := none }.block = none ∧ (onPoint 1).block = some ⟨⟨17500000, 4000000, 1500000⟩, 4⟩ ∧
    State.reset.lookup.configured = false ∧ (cached State.reset).lookup.configured = true ∧
    cellKeyOf (cached State.reset).lookup.shift ⟨17500000, 4000000, 1500000⟩ = record10.key ∧
    some record10 ∈ (cached State.reset).lookup.records ∧
    (∀ r ∈ (cached State.reset).lookup.records, r = none ∨ r = some record10) ∧
    (∀ r ∈ walking.lookup.records, r = none) ∧
    walking.lookup.walks.find? (fun w => w.key = ⟨16, 3, 1⟩ && !w.discarded) = some walkW1 ∧
    (∀ w ∈ [{ walkW1 with key := ⟨0, 0, 0⟩ }], w.key ≠ ⟨16, 3, 1⟩) ∧ (∀ w ∈ walking.lookup.walks, w.charge ≠ .head .h2) := by
  decide +kernel

/-- Head 0's sample waits on W1, or as a pending start. -/
def waitingOn (pendingStart : Bool) : State :=
  { walking with waiting := walking.waiting.set .h0 (some ⟨onPoint 1, pendingStart⟩) }

/-- A sample of another cell, and one without a position. -/
def elsewhere : MeasuredSample := { onPoint 2 with block := some ⟨⟨0, 0, 0⟩, 4⟩ }
def nowhere : MeasuredSample := { onPoint 2 with block := none }

/-- The walk waited on, with its read of bucket 46 outstanding as a run leaves it. -/
theorem witness_NextSampleFinishesLate : (waitingOn true).waiting.get .h0 = some ⟨onPoint 1, true⟩ ∧
    (waitingOn false).waiting.get .h0 = some ⟨onPoint 1, false⟩ ∧
    (waitingOn false).lookup.walks.find? (fun v => v.waiters.contains .h0) = some walkW1 ∧
    (waitingOn false).lookup.configured = true ∧ (onPoint 2).block = some ⟨⟨17500000, 4000000, 1500000⟩, 4⟩ ∧
    cellKeyOf (waitingOn false).lookup.shift ⟨17500000, 4000000, 1500000⟩ = walkW1.key ∧
    cellKeyOf (waitingOn false).lookup.shift ⟨0, 0, 0⟩ ≠ walkW1.key ∧ walkW1.waiters = [.h0] ∧ walkW1.pin = false ∧
    walkW1.outstanding = some 46 ∧ walkW1.waiters.filter (· ≠ .h0) = [] ∧ { walkW1 with pin := true }.pin = true ∧
    [Head.h0, .h2].filter (· ≠ .h0) ≠ [] ∧ { walkW1 with outstanding := none }.outstanding = none ∧
    elsewhere.block = some ⟨⟨0, 0, 0⟩, 4⟩ ∧ nowhere.block = none := by decide +kernel
theorem witness_NextSampleFinishesLate_other (m : MeasuredSample) (h : m = elsewhere ∨ m = nowhere) :
    ¬((waitingOn false).lookup.configured = true ∧
      ∃ b, m.block = some b ∧ cellKeyOf (waitingOn false).lookup.shift b.pos = walkW1.key) := by
  rintro ⟨-, b, hb, hk⟩
  rcases h with rfl | rfl
  · cases hb; exact absurd hk (by decide)
  · cases hb
/-- R65, R66, R73: the walk left without a waiter keeps head 0's charge while its read is outstanding, so the next sample's
start is pending; a sample without a position leaves it so too. -/
theorem test_walk_left :
    ((waitingOn false).lookupSample .h0 elsewhere).lookup.walks = [{ walkW1 with waiters := [] }] ∧
    ((waitingOn false).lookupSample .h0 elsewhere).waiting.get .h0 = some ⟨elsewhere, true⟩ ∧
    ((waitingOn false).lookupSample .h0 nowhere).lookup.walks = [{ walkW1 with waiters := [] }] ∧
    ((waitingOn false).lookupSample .h0 nowhere).waiting.get .h0 = none := by decide +kernel

theorem witness_SettleQueueWorked : queue2004.entries.length < 12 ∧ queue2004.entries.length ≤ 12 ∧
    (List.replicate 12 (⟨7, ⟨0, 0, 0⟩, true⟩ : SettleEntry)).length = 12 ∧
    (∃ old e, queue2004.candidate = some old ∧ old.bucket = 46 ∧ old.slot = .a ∧ queue2004.poseGen = some 4 ∧
      queue2004.entries.getLast? = some e ∧ 2005 = (e.index + 1) % 65536) ∧
    queue2004.entries.IsChain (fun a b => b.index = (a.index + 1) % 65536) :=
  ⟨by decide, by decide, by decide, ⟨_, _, rfl, rfl, rfl, rfl, rfl, rfl⟩, by simp [queue2004]⟩
theorem witness_SettleQueueWorked_afresh : ¬∃ old e, SettleQueue.empty.candidate = some old ∧ old.bucket = 46 ∧ old.slot = .a ∧
    SettleQueue.empty.poseGen = some 4 ∧ SettleQueue.empty.entries.getLast? = some e ∧ 2005 = (e.index + 1) % 65536 := by
  simp [SettleQueue.empty]

/-- A sample at the capture unit: behind an attempt, not eligible, settled and not settled. -/
theorem witness_SampleAtCaptureUnit : (∃ a ∈ attempting.capture.waiting, a.head = .h0) ∧
    (∀ a ∈ attempting.capture.waiting, a.head ≠ .h1) ∧ (inService .hold).service ≠ .active ∧
    sample2004.tracking = .locked ∧ attempting.service = .active ∧ sample2004.flags = SampleFlags.none ∧
    sample2004.block = some ⟨⟨17500004, 3999996, 1499999⟩, 4⟩ ∧ record10.incomplete = false ∧
    (nearestPoint ⟨17500004, 3999996, 1499999⟩ record10.points) = some attempt2004.point ∧
    attempt2004.point.state = .open ∧ attempt2004.point.settle ≤ queue2004.entries.length ∧
    (∀ e ∈ queue2004.entries.drop (queue2004.entries.length - attempt2004.point.settle), e.inWindow = true) ∧
    ¬attempt2004.point.settle ≤ SettleQueue.empty.entries.length := by decide +kernel

theorem witness_PositionReportsDecimated : let r := { Report.reset with decimation := .all ⟨10, 10, 9⟩ }
    (Report.reset.decimation.get .h0).count + 1 < (Report.reset.decimation.get .h0).effective ∧
    (r.decimation.get .h0).effective ≤ (r.decimation.get .h0).count + 1 ∧ r.posCount < 40 ∧ r.occupancy < 48 ∧
    40 ≤ { r with queue := List.replicate 40 ⟨.position, []⟩ }.posCount ∧
    48 ≤ { r with queue := List.replicate 40 ⟨.capture, []⟩, reserved := 8 }.occupancy := by decide +kernel

/-! Requests. -/

theorem witness_RequestsTakenInTurn : (24, Instr.restart) ∈ requestRows ∧ (holding .setWake State.reset).mgmt.inHand ≠ none ∧
    { State.reset.mgmt with held := some ⟨.answer 3, []⟩ }.held ≠ none ∧ State.reset.uplink.requests = [] ∧
    Next (asked [24] State.reset) ⟨77, [24]⟩ [] ∧ requestKind [24] ≠ some 17 ∧ requestKind [24] = some 24 ∧
    lengthAdmitted 24 [24, 0] = false ∧ Next (asked [] State.reset) ⟨77, []⟩ [] ∧ requestKind [25] = some 25 ∧ 24 < 25 ∧
    requestKind [0] = some 0 ∧ (1 ≤ 1 ∧ 24 ≤ 24) ∧ (5, 48) = (5, 48) := by decide

theorem witness_ReadsAnswered : Takes (asked [1, 3] State.reset) 1 ⟨77, [1, 3]⟩ [] ∧
    Takes (asked [2, 3, 3] State.reset) 2 ⟨77, [2, 3, 3]⟩ [] ∧ Takes (asked [3, 5] State.reset) 3 ⟨77, [3, 5]⟩ [] ∧
    Takes (asked [4, 10, 4] (cached State.reset)) 4 ⟨77, [4, 10, 4]⟩ [] ∧
    (cached State.reset).lookup.records[natAt 1 1 [4, 10, 4]]? = some (some record10) ∧ natAt 1 1 [4, 10, 4] < 32 ∧
    (cached State.reset).lookup.records[natAt 1 1 [4, 31, 0]]? = some none ∧ 32 ≤ natAt 1 1 [4, 32, 0] ∧
    Takes (asked [6, 255] State.reset) 6 ⟨77, [6, 255]⟩ [] ∧
    ([.linkSilent, .sampleSequence, .searchExhausted, .anchorFail, .distSlip, .cellOverflow, .captureRefused, .triggerOverrun] :
      List FaultKind).length ≤ 8 := by decide +kernel

/-- A request of a kind and a length, its parameters 0. -/
def req (kind len : Nat) : List Byte := byteOf kind :: List.replicate (len - 1) 0

theorem witness_PartSettingsStored : Takes (asked (req 7 21) State.reset) 7 ⟨77, req 7 21⟩ [] ∧
    Takes (asked (req 14 2) State.reset) 14 ⟨77, req 14 2⟩ [] ∧ Takes (asked (req 13 13) State.reset) 13 ⟨77, req 13 13⟩ [] ∧
    State.reset.service = .start ∧ (inService .hold).service ≠ .start ∧ 3 < natAt 1 1 [13, 4] ∧
    (natAt 1 1 (bytes [13, 3]), Interleave.m1) ∈ [(0, Interleave.k2), (1, Interleave.k8), (2, Interleave.k32), (3, Interleave.m1)] ∧
    Takes (asked (req 12 5) State.reset) 12 ⟨77, req 12 5⟩ [] := by decide +kernel

theorem witness_HeadSettingsStored : Takes (asked (req 8 28) State.reset) 8 ⟨77, req 8 28⟩ [] ∧ natAt 2 4 (req 8 28) = 0 ∧
    3 < natAt 1 1 [8, 4] ∧ headNumber .h0 = natAt 1 1 (req 8 28) ∧ 0 < natAt 2 4 (bytes [8, 3, 1, 0, 0, 0]) ∧
    Takes (asked (req 9 6) State.reset) 9 ⟨77, req 9 6⟩ [] ∧ 1 < natAt 2 1 [9, 0, 2, 0, 0, 0] ∧ natAt 2 1 (req 9 6) ≤ 1 ∧
    256 < natAt 3 1 (bytes [9, 0, 0, 255, 1, 0, 1, 0]) + (8 - 4) / 2 ∧ natAt 3 1 (bytes [9, 3, 1, 255, 1, 0]) + (6 - 4) / 2 ≤ 256 ∧
    Takes (asked (req 10 50) State.reset) 10 ⟨77, req 10 50⟩ [] ∧ headNumber .h0 = natAt 1 1 (req 10 50) ∧
    (∀ a ∈ State.reset.capture.waiting, a.head ≠ .h0) := by decide +kernel
/-- A waiting attempt of the head, none behind it, and one of another head: the first leaves, the other stays (R92). -/
theorem witness_HeadSettingsStored_attempt :
    let s := asked (req 10 50) { attempting with capture :=
      { attempting.capture with waiting := [attempt2004, { attempt2004 with head := .h2 }] } }
    Takes s 10 ⟨77, req 10 50⟩ [] ∧ headNumber .h0 = natAt 1 1 (req 10 50) ∧ s.behind.get .h0 = [] ∧
    (s.capture.waiting.filter fun a => a.head = .h0) = [attempt2004] ∧
    ((does .writePose s).capture.waiting.map Attempt.head) = [.h2] ∧ (does .writePose s).settle.get .h0 = ⟨[], none, none⟩ := by
  decide +kernel

theorem witness_TableConfigured : Takes (asked (req 11 10) State.reset) 11 ⟨77, req 11 10⟩ [] ∧
    (let s := holding (.tableConfig 4194304 1024 20) (tabled (inService .hold))
     s.mgmt.inHand = some ⟨77, .tableConfig 4194304 1024 20⟩ ∧ s.mgmt.held = none ∧ s.capture.writeback = [] ∧
     (s.lookup.walks.map Walk.charge).Nodup) ∧
    [(⟨46, .a, true, true, 0, 57, .waiting⟩ : WbEntry)] ≠ [] := by decide +kernel
theorem witness_TableConfigured_waiting : ∀ n, (tabled (inService .hold)).waiting.get n = none := by intro n; cases n <;> rfl
/-- A sample that waits on a walk as the table is configured anew is handed on late. -/
theorem witness_TableConfigured_late : let s := holding (.tableConfig 4194304 1024 20) (waitingOn false)
    s.mgmt.inHand = some ⟨77, .tableConfig 4194304 1024 20⟩ ∧ s.mgmt.held = none ∧ s.capture.writeback = [] ∧
    (s.lookup.walks.map Walk.charge).Nodup ∧ s.waiting.get .h0 ≠ none ∧ (does .tableConfigApply s).waiting.get .h0 = none ∧
    ((does .tableConfigApply s).report.decimation.get .h0).count = 1 := by decide +kernel

/-! Table requests. -/

/-- A write-back entry for bucket 46, slot A, in a phase. -/
def backing (ph : WbPhase) (s : State) : State :=
  { s with capture := { s.capture with writeback := [⟨46, .a, true, true, 0, 57, ph⟩] } }

theorem witness_MemoryAccessRequested : let p := [5] ++ natLE 4 67108816 ++ [48]; let q := [15] ++ natLE 4 4197277 ++ [5]
    let s := backing .waiting (tabled (inService .active))
    Takes (asked p s) 5 ⟨77, p⟩ [] ∧ s.service ≠ .standby ∧ s.mem.state = .ready ∧ natAt 1 4 p + natAt 5 1 p = 67108864 ∧
    Takes (asked q s) 15 ⟨77, q⟩ [] ∧
    (∃ e ∈ s.capture.writeback, 4197277 < s.lookup.base + e.bucket * 64 + slotOffset e.slot + 30 ∧
      s.lookup.base + e.bucket * 64 + slotOffset e.slot < 4197277 + 1) ∧
    (¬∃ e ∈ s.capture.writeback, 4197278 < s.lookup.base + e.bucket * 64 + slotOffset e.slot + 30 ∧
      s.lookup.base + e.bucket * 64 + slotOffset e.slot < 4197278 + 1) ∧
    (holding (.memWriteBlocked 4197277 [5]) s).mgmt.inHand = some ⟨77, .memWriteBlocked 4197277 [5]⟩ ∧
    (holding .setWake s).mgmt.inHand = some ⟨77, .setWake⟩ := by decide +kernel

theorem witness_MemoryAccessesComplete :
    let s := running (.mgmt (.read 67108816 48)) (holding (.memRead 67108816 48) (inService .active))
    let t := running (.mgmt (.write 67108863 [1])) (holding (.memWrite 67108863 [1]) (cached (inService .active)))
    (s.mem.running = some ⟨.mgmt (.read 67108816 48), 0, 40⟩ ∧ s.mgmt = ⟨some ⟨77, .memRead 67108816 48⟩, none⟩ ∧
      67108816 + 48 ≤ 67108864) ∧
    (t.mem.running = some ⟨.mgmt (.write 67108863 [1]), 0, 40⟩ ∧ t.mgmt = ⟨some ⟨77, .memWrite 67108863 [1]⟩, none⟩ ∧
      67108863 + ([1] : List Byte).length ≤ 67108864 ∧ memoryCanonical t = true ∧ (t.lookup.walks.map Walk.charge).Nodup) := by
  decide +kernel

theorem witness_PurgesAndUnpins : let s := { cached (inService .active) with lookup := { (cached (inService .active)).lookup with
      walks := [{ walkW1 with key := ⟨0, 0, 0⟩ }], rewalk := [⟨5, 5, 5⟩] } }
    cacheConsistent s = true ∧ Takes (asked (req 16 7) s) 16 ⟨77, req 16 7⟩ [] ∧ cacheConsistent (asked (req 16 7) s) = true ∧
    Takes (asked [17] s) 17 ⟨77, [17]⟩ [] ∧ Takes (asked (req 19 7) s) 19 ⟨77, req 19 7⟩ [] := by decide +kernel

/-- PIN_CELL's cases: record 10 cached, pinned, its key on the re-walk list, or a walk in flight. -/
theorem witness_PinsTaken : let p := bytes [18, 16, 0, 3, 0, 1, 0]; let s := asked p (cached (inService .active))
    cacheConsistent s = true ∧ Takes s 18 ⟨77, p⟩ [] ∧ paramKey p = ⟨16, 3, 1⟩ ∧ s.lookup.configured = true ∧
    s.mem.state ≠ .uninitialized ∧ s.mem.state ≠ .initializing ∧ s.lookup.records[10]? = some (some record10) ∧
    record10.key = ⟨16, 3, 1⟩ ∧ record10.pinned = false ∧ s.lookup.pinCount < 24 ∧ (⟨16, 3, 1⟩ : CellKey) ∉ s.lookup.rewalk ∧
    State.reset.lookup.configured = false ∧ cacheConsistent walking = true ∧
    cacheConsistent { walking with lookup := { walking.lookup with walks := [], rewalk := [⟨16, 3, 1⟩] } } = true ∧
    walkW1 ∈ walking.lookup.walks ∧ walkW1.discarded = false ∧ (inService .standby).service = .standby ∧
    (holding (.pinForCharge ⟨16, 3, 1⟩) walking).mgmt = ⟨some ⟨77, .pinForCharge ⟨16, 3, 1⟩⟩, none⟩ ∧
    (∀ w ∈ walking.lookup.walks, w.charge ≠ .management) := by decide +kernel

theorem witness_PointStateTaken : let p := bytes [20, 46, 0, 0, 2]; let s := tabled (inService .active)
    Takes (asked p s) 20 ⟨77, p⟩ [] ∧ s.service = .active ∧ s.lookup.configured = true ∧ natAt 1 2 p < s.lookup.bucketCount ∧
    Slot.a.code = natAt 3 1 p ∧ PointState.disabled.code = natAt 4 1 p ∧
    (∃ e ∈ (backing .writing s).capture.writeback, e.bucket = 46 ∧ e.slot = .a ∧ e.phase = .writing) ∧
    (∃ e ∈ (backing .waiting s).capture.writeback, e.bucket = 46 ∧ e.slot = .a ∧ e.phase = .waiting) ∧
    (¬∃ e ∈ s.capture.writeback, e.bucket = 46 ∧ e.slot = .a ∧ e.phase = .writing) ∧
    (holding (.pointBlocked 46 .a .open) s).mgmt.inHand = some ⟨77, .pointBlocked 46 .a .open⟩ := by decide +kernel

theorem witness_WritesComplete : let s := tabled (inService .active); let w : PointWrite := ⟨1023, .b, true, some false, some 255, some 0⟩
    memoryCanonical s = true ∧ s.lookup.base + 1023 * 64 + slotOffset .b + 30 ≤ 67108864 ∧
    (running (.writeback 46 .a) (backing .writing s)).mem.running = some ⟨.writeback 46 .a, 0, 40⟩ ∧
    (backing .writing s).capture.writeback.find? (fun e => e.bucket = 46 && e.slot = .a && e.phase = .writing) =
      some ⟨46, .a, true, true, 0, 57, .writing⟩ ∧
    (running (.mgmt (.point w)) s).mem.running = some ⟨.mgmt (.point w), 0, 40⟩ ∧
    (holding (.pointWrite 1023 .b) s).mgmt = ⟨some ⟨77, .pointWrite 1023 .b⟩, none⟩ ∧ (s.lookup.walks.map Walk.charge).Nodup ∧
    (running (.spill (.write 511)) s).mem.running = some ⟨.spill (.write 511), 0, 40⟩ ∧
    s.spill.base + 511 * 64 + 64 ≤ 67108864 ∧ [(⟨511, [58]⟩ : SpillWrite)].find? (fun w => w.pos = 511) = some ⟨511, [58]⟩ := by
  decide +kernel

theorem witness_DrainsInOrder : let s := { tabled (inService .active) with spill :=
      { (tabled (inService .active)).spill with count := 4, readPos := 510, drains := [⟨510, none⟩, ⟨511, none⟩, ⟨0, none⟩] } }
    (s.service = .active ∧ s.restartMark = false ∧ s.spill.drains.length < s.spill.count ∧
      (∀ w ∈ s.spill.writes, w.pos ≠ (s.spill.readPos + s.spill.drains.length) % 512) ∧
      (s.spill.drains.countP fun d => d.data.isNone) < 4 ∧ s.mgmt.held = none ∧ s.report.occupancy < 48) ∧
    State.reset.service ≠ .active ∧ State.reset.service ≠ .hold ∧
    (running (.spill (.read 511)) s).mem.running = some ⟨.spill (.read 511), 0, 40⟩ ∧
    s.spill.base + 511 * 64 + 64 ≤ 67108864 ∧ s.spill.readPos < 512 := by decide +kernel

/-! Control. -/

theorem witness_HeadModes : let p (m : Nat) := bytes ([21, 3, m] ++ if m = 2 then List.replicate 8 0 else [])
    let lost := expired .h3 7 7 (headIn .h3 .lost (inService .active))
    Takes (asked (p 0) State.reset) 21 ⟨77, p 0⟩ [] ∧ Takes (asked (p 1) State.reset) 21 ⟨77, p 1⟩ [] ∧
    Takes (asked (p 2) lost) 21 ⟨77, p 2⟩ [] ∧ headNumber .h3 = natAt 1 1 (p 0) ∧ 2 < natAt 2 1 (bytes [21, 0, 3]) ∧
    natAt 2 1 (p 2) = 2 ∧ 3 < natAt 1 1 (bytes [21, 4, 0]) ∧ State.reset.service = .start ∧ (inService .init).service = .init ∧
    (headIn .h3 .disabled State.reset).ctx.get .h3 = { Context.reset with state := .disabled } ∧
    (lost.ctx.get .h3).state = .lost ∧ (lost.headTime.get .h3).history.getLast? = some ⟨7, 7, 100000⟩ := by decide +kernel

theorem witness_ServiceSet : Takes (asked [22, 255] State.reset) 22 ⟨77, [22, 255]⟩ [] ∧ 3 < natAt 1 1 [22, 4] ∧ natAt 1 1 [22, 4] ≠ 255 ∧
    headNumber .h3 = natAt 1 1 [22, 3] ∧ (∀ t ∈ [0, 1, 2, 3, 4], Takes (asked (bytes [23, t]) (inService .active)) 23 ⟨77, bytes [23, t]⟩ []) ∧
    3 < natAt 1 1 [23, 4] ∧ State.reset.service = .start ∧ (inService .hold).service = .hold ∧ (inService .active).capture.waiting = [] ∧
    (inService .standby).service = .standby ∧ ((headIn .h0 .locked (inService .active)).ctx.get .h0).state ≠ .disabled := by
  decide +kernel

/-- Head 0's attempt waits with a sample behind it, head 3's sample has a pending start, head 1 is DISABLED. -/
def unsettled : State :=
  { headIn .h1 .disabled attempting with
    behind := State.reset.behind.set .h0 [⟨onPoint 2005, .noTable⟩]
    waiting := State.reset.waiting.set .h3 (some ⟨onPoint 1, true⟩) }

/-- HOLD hands on the dropped attempt's sample and the one behind it; QUIESCING the late sample too, and it leaves the DISABLED
head's port and event slot (R53, R92, R98, R186). -/
theorem witness_ServiceSet_waiting : let s (v : Nat) := asked (bytes [23, v]) unsettled
    let h := does .setServiceHold (s 1); let t := does .setServiceStandby (s 2)
    Takes (s 1) 23 ⟨77, bytes [23, 1]⟩ [] ∧ Takes (s 2) 23 ⟨77, bytes [23, 2]⟩ [] ∧ unsettled.service = .active ∧
    unsettled.capture.waiting = [attempt2004] ∧ unsettled.waiting.get .h3 = some ⟨onPoint 1, true⟩ ∧
    (unsettled.ctx.get .h1).state = .disabled ∧
    h.capture.waiting = [] ∧ (h.report.decimation.get .h0).count = 2 ∧ h.behind.get .h0 = [] ∧ h.uplink.requests = [] ∧
    t.capture.waiting = [] ∧ (t.report.decimation.get .h0).count = 2 ∧ t.waiting.get .h3 = none ∧
    (t.report.decimation.get .h3).count = 1 ∧ t.ports.get .h1 = unsettled.ports.get .h1 ∧ t.report.headSlots.get .h1 = none ∧
    (t.report.headSlots.get .h0).isSome = true := by decide +kernel

/-- A drain that has ended. -/
def drained : State := holding .restart { inService .hold with restartMark := true }

theorem witness_RestartsAndReset : Takes (asked [24] (inService .active)) 24 ⟨77, [24]⟩ [] ∧ State.reset.service ≠ .active ∧
    State.reset.service ≠ .hold ∧ drained.mgmt = ⟨some ⟨77, .restart⟩, none⟩ ∧ drained.restartMark = true ∧ drained.lookup.walks = [] ∧
    drained.capture.waiting = [] ∧ drained.capture.attempt = none ∧ drained.capture.writeback = [] ∧ drained.spill.writes = [] ∧
    drained.spill.drains = [] ∧ drained.report.occupancy = 0 ∧ drained.mem.running = none ∧
    (running .refresh drained).mem.running ≠ none := by decide +kernel
theorem witness_RestartsAndReset_heads : (∀ n, drained.waiting.get n = none ∧ drained.behind.get n = []) ∧
    ∀ n w, (inService .active).waiting.get n = some w → w.pendingStart = false := by
  constructor
  · intro n; cases n <;> exact ⟨rfl, rfl⟩
  · intro n w h; cases n <;> cases h

/-- A RESTART hands a sample with a pending start on late (R188). -/
theorem witness_RestartsAndReset_late : let s := asked [24] (waitingOn true)
    Takes s 24 ⟨77, [24]⟩ [] ∧ s.service = .active ∧ s.waiting.get .h0 = some ⟨onPoint 1, true⟩ ∧
    (does .restart s).waiting.get .h0 = none ∧ ((does .restart s).report.decimation.get .h0).count = 1 := by decide +kernel

/-! Table memory's course, walks and captures. -/

theorem witness_MemoryRunsItsCourse : let s := inService .quiescing
    let q := holding .setStandby { s with mem := { s.mem with quiesce := true } }
    let i (p : InitPhase) := holding .setActive { s with mem := { s.mem with state := .initializing, initPhase := some p } }
    let d := { s with mem := { s.mem with nextRefresh := some 0 } }
    let x := holding .setWake { s with mem := { s.mem with state := .exiting } }
    ((i (.settle 0)).mem.state = .initializing ∧ (i (.settle 0)).mem.initPhase = some (.settle 0) ∧ 0 ≤ (i (.settle 0)).time.timebase) ∧
    ((i (.refreshing 2 0)).mem.state = .initializing ∧ (i (.refreshing 2 0)).mem.initPhase = some (.refreshing 2 0) ∧ 1 < 2) ∧
    ((i (.refreshing 1 0)).mem.initPhase = some (.refreshing 1 0) ∧ 1 ≤ 1 ∧ (i (.refreshing 1 0)).mgmt = ⟨some ⟨77, .setActive⟩, none⟩) ∧
    s.mem.state ≠ .initializing ∧ (d.mem.state = .ready ∧ d.mem.nextRefresh = some 0 ∧ 0 ≤ d.time.timebase) ∧
    s.mem.nextRefresh = none ∧ s.mem.running = none ∧
    (running .refresh s).mem.running = some ⟨.refresh, 0, 40⟩ ∧
    (q.mem.quiesce = true ∧ q.mem.state = .ready ∧ q.capture.attempt = none ∧ q.capture.waiting = [] ∧ q.lookup.walks = [] ∧
      q.capture.writeback = [] ∧ q.spill.writes = [] ∧ q.spill.drains = [] ∧ q.mem.mgmt = none ∧ q.mem.owed = 0 ∧
      q.mem.running = none ∧ q.mgmt = ⟨some ⟨77, .setStandby⟩, none⟩) ∧ s.mem.quiesce ≠ true ∧
    (x.mem.state = .exiting ∧ x.mgmt = ⟨some ⟨77, .setWake⟩, none⟩) ∧
    s.mem.state ≠ .exiting := by decide +kernel

theorem witness_GrantRunsAccess : contending.mem.state = .ready ∧ contending.mem.running = none ∧
    contending.granted = some (.walk ⟨.head .h0, 46, 4197248⟩) ∧ (inService .active).granted = none ∧
    bankRows 8192 4197248 64 = [(0, 513)] ∧ bankRows 2048 2047 2 = [(0, 0), (1, 0)] := by decide +kernel

/-- W1's read of bucket 46 has completed. -/
def readDone (w : Walk) (records : List (Option CellRecord)) : State :=
  running (.walk ⟨.head .h0, 46, 4197248⟩) (holds 4197248 (List.replicate 60 0 ++ [0, 4, 0, 0])
    { walking with lookup := { walking.lookup with walks := [w], records := records } })

/-- A bucket read taken, in its cases: no walk, a dead one, a restarted one, a chain that ends at a bad link, on a free record
and on the least victim of a full cache; a match; a pending start; a re-walk. -/
theorem witness_WalksRun : let s := readDone walkW1 (List.replicate 32 none)
    let full : List (Option CellRecord) := List.replicate 31 (some { record10 with pinned := true }) ++ [some record10]
    s.mem.running = some ⟨.walk ⟨.head .h0, 46, 4197248⟩, 0, 40⟩ ∧ 4197248 + 64 ≤ 67108864 ∧ (s.lookup.walks.map Walk.charge).Nodup ∧
    (∀ w ∈ [{ walkW1 with charge := .management }], w.charge ≠ .head .h0) ∧ walkW1 ∈ s.lookup.walks ∧
    { walkW1 with discarded := true }.discarded = true ∧ walkW1.discarded = false ∧ walkW1.waiters ≠ [] ∧ walkW1.dropData = false ∧
    { walkW1 with dropData := true }.dropData = true ∧
    leNat (((List.range 64).map fun i => s.readByte (4197248 + i)).drop 60) = 1024 ∧ s.lookup.bucketCount ≤ 1024 ∧
    (700 ≠ 0 ∧ 700 < s.lookup.bucketCount ∧ walkW1.visited.length + 1 < 4) ∧
    s.lookup.records[0]? = some none ∧ full.length = 32 ∧ (∀ o ∈ full, o ≠ none) ∧ full[(0 + 31) % 32]? = some (some record10) ∧
    record10.pinned = false ∧ (holding (.pinForWalk walkW1.key) s).mgmt = ⟨some ⟨77, .pinForWalk walkW1.key⟩, none⟩ ∧
    (waitingOn true).waiting.get .h0 = some ⟨onPoint 1, true⟩ ∧ (inService .hold).restartMark = false ∧
    (∀ w ∈ (tabled (inService .active)).lookup.walks, w.charge ≠ .head .h0) ∧
    { walking.lookup with rewalk := [⟨5, 5, 5⟩] }.rewalk = ⟨5, 5, 5⟩ :: [] := by decide +kernel
theorem witness_WalksRun_pinned : ∀ i, i < 31 → ∀ o, (List.replicate 31 (some { record10 with pinned := true }) ++ [some record10])[(0 + i) % 32]? =
    some (some o) → o.pinned = true := by
  have h : ∀ i, i < 31 → ((List.replicate 31 (some { record10 with pinned := true }) ++ [some record10])[(0 + i) % 32]?).any
      (fun o => o.all CellRecord.pinned) = true := by decide +kernel
  intro i hi o ho
  have h := h i hi
  rw [ho] at h
  exact h

/-- W1's completion with a PIN_CELL waiting for its key: head 0's sample is handed on and the pin answered OK with record 0,
incomplete for its bad link. -/
theorem witness_WalksRun_answer : let s := holding (.pinForWalk walkW1.key) { readDone walkW1 (List.replicate 32 none) with
      waiting := State.reset.waiting.set .h0 (some ⟨onPoint 1, false⟩) }
    s.mgmt = ⟨some ⟨77, .pinForWalk walkW1.key⟩, none⟩ ∧ (does .walkReadDone s).waiting.get .h0 = none ∧
    (((does .walkReadDone s).lookup.records[0]?.getD none).map CellRecord.key) = some walkW1.key ∧
    newest (does .walkReadDone s) = some (bytes [18, 0, 0, 1, 0]) ∧ (does .walkReadDone s).mgmt.inHand = none := by
  decide +kernel

/-- The ends of a slot's fields, a settle count of 0 and one above 12, and a point whose captured state is on its way to memory
(R60, R70, R157). -/
theorem witness_WalksRun_slot : signedVec 16 ⟨-32768, 32767, 0⟩ = true ∧ 65535 < 65536 ∧
    signedVec 32 ⟨-2147483648, 2147483647, 0⟩ = true ∧ 4294967295 < 4294967296 ∧
    (slotPoint 46 .b (bytes [1, 0])).settle = 1 ∧ (slotPoint 46 .b (bytes [11, 13])).settle = 12 ∧
    (slotPoint 46 .b (bytes [11, 13])).mode = .triggered ∧
    (forwarded [⟨46, .a, true, true, 2, 57, .waiting⟩] attempt2004.point).state = .captured ∧
    [(⟨46, .a, true, true, 2, 57, .waiting⟩ : WbEntry)].find?
      (fun e => e.bucket = attempt2004.point.bucket && e.slot = attempt2004.point.slot) =
        some ⟨46, .a, true, true, 2, 57, .waiting⟩ := by decide +kernel

/-- Attempts of a mode, with a number, write-backs and a ring. -/
def attemptAt (mode : CaptureMode) (number : Option Nat) (wb : List WbEntry) (spill : Spill) : State :=
  { attempting with
    spill := spill
    capture := ⟨wb, number, none, [{ attempt2004 with point := { attempt2004.point with mode := mode } }]⟩ }

theorem witness_AttemptMakesNothing : let m := attemptAt .triggered (some 57) [] Spill.reset
    (attemptAt .auto none [] Spill.reset).capture.nextNumber = none ∧ State.reset.capture.waiting = [] ∧
    m.capture.attempt = none ∧ m.capture.waiting.map (fun a => a.point.mode) = [.triggered] ∧
    (m.headTime.get .h0).trigger = none ∧
    (∃ e ∈ (attemptAt .auto (some 57) [⟨46, .a, true, true, 0, 3, .writing⟩] Spill.reset).capture.writeback,
      e.bucket = 46 ∧ e.slot = .a ∧ e.phase = .writing) ∧
    8 ≤ (List.replicate 8 (⟨1, .b, true, true, 0, 3, .waiting⟩ : WbEntry)).length ∧
    512 ≤ (⟨true, 8388608, 140, 140, 512, [], []⟩ : Spill).count ∧
    (⟨true, 8388608, 0, 4, 4, List.replicate 4 ⟨0, []⟩, []⟩ : Spill).count < 512 ∧
    4 ≤ (⟨true, 8388608, 0, 4, 4, List.replicate 4 ⟨0, []⟩, []⟩ : Spill).writes.length ∧
    48 ≤ { Report.reset with queue := List.replicate 48 ⟨.capture, []⟩ }.occupancy ∧ Spill.reset.configured = false := by
  decide +kernel

theorem witness_AttemptMakesCapture : attempting.capture.attempt = none ∧ attempting.capture.waiting = attempt2004 :: [] ∧
    attempting.capture.nextNumber = some 57 ∧ attempt2004.point.mode = .auto ∧ attemptKey attempt2004 = record10.key ∧
    attempting.captureTests 46 .a = .pass .queue ∧
    { attempting with spill := ⟨true, 8388608, 0, 1, 1, [], []⟩ }.captureTests 46 .a = .pass .ring ∧
    attempting.lookup.records[10]? = some (some record10) ∧
    record10.points.find? (fun y => y.bucket = 46 && y.slot = .a) = some attempt2004.point ∧ attempt2004.point.state = .open ∧
    attempt2004.handed.sample.timestamp = ((777 : Nat) : Int) ∧
    (∀ r ∈ (attemptAt .auto (some 57) [] Spill.reset).lookup.records, r = none ∨ r = some record10) ∧
    (∀ r ∈ Lookup.reset.records, r = none) := by decide +kernel

/-- Where an attempt's room is, and one that must wait (R93). -/
theorem witness_AttemptMakesCapture_room : ¬attemptHeld attempting 46 .a ∧ attempting.spill.count = 0 ∧
    attempting.report.occupancy < 48 ∧
    (let r : Spill := ⟨true, 8388608, 0, 511, 511, List.replicate 3 ⟨0, []⟩, []⟩
     0 < r.count ∧ r.count < 512 ∧ r.configured = true ∧ r.writes.length < 4) ∧
    attemptHeld (attemptAt .auto (some 57) [⟨46, .a, true, true, 0, 3, .writing⟩] Spill.reset) 46 .a := by
  refine ⟨?_, by decide +kernel, by decide +kernel, by decide, .inr (.inl ⟨_, List.mem_cons_self, rfl, rfl, rfl⟩)⟩
  rintro (⟨tag, w, h, -⟩ | ⟨e, h, -⟩ | ⟨h, -⟩)
  · cases h
  · cases h
  · exact absurd h (by decide)

/-! Time, reports and transmissions. -/

theorem witness_TimeBaseSteps : let b := TimeBase.reset
    let at_ (t : TimeBase) (h : HeadTime) : State := { inService .hold with time := t, headTime := .all h }
    let e (now : Nat) (present : Bool) (r : RefState) := at_ { b with timebase := now, lastEdge := some 100, present := present, refState := r } HeadTime.reset
    State.reset.time.timebase < State.reset.time.nextEpoch ∧
    (at_ { b with timebase := 100000 } HeadTime.reset).time.nextEpoch ≤ (at_ { b with timebase := 100000 } HeadTime.reset).time.timebase ∧
    (((at_ b { HeadTime.reset with pulseEnd := some 0 }).headTime.get .h0).pulseEnd = some 0 ∧ 0 ≤ b.timebase) ∧
    ((inService .hold).service = .hold ∧ ((inService .hold).ctx.get .h0).state ≠ .disabled ∧
      ((inService .hold).headTime.get .h0).trigger = none) ∧
    ((at_ b { HeadTime.reset with trigger := some ⟨1, 1, 1⟩ }).service = .hold ∧
      ((at_ b { HeadTime.reset with trigger := some ⟨1, 1, 1⟩ }).headTime.get .h0).trigger ≠ none) ∧
    State.reset.service = .start ∧ State.reset.time.lastEdge = none ∧
    ((e 109 false .free).time.lastEdge = some 100 ∧ (9 ≤ 109 - 100 ∧ 109 - 100 ≤ 11) ∧ (e 109 false .free).time.present = false) ∧
    ((e 111 true .locked).time.present = true ∧ (9 ≤ 111 - 100 ∧ 111 - 100 ≤ 11)) ∧
    (¬(9 ≤ 112 - 100 ∧ 112 - 100 ≤ 11) ∧ (e 112 true .locked).time.present = true ∧ (e 112 true .locked).time.refState = .locked ∧
      100 + 12 ≤ (e 112 true .locked).time.timebase) ∧
    (¬(9 ≤ 108 - 100 ∧ 108 - 100 ≤ 11) ∧ (e 108 true .acquiring).time.present = true ∧ (e 108 true .acquiring).time.refState ≠ .locked ∧
      (e 108 true .acquiring).time.timebase < 100 + 12) ∧
    ((at_ { b with refState := .acquiring, lockUp := 1048576 } HeadTime.reset).time.refState = .acquiring ∧
      1048576 ≤ (at_ { b with refState := .acquiring, lockUp := 1048576 } HeadTime.reset).time.lockUp) := by decide

/-- Every state of a context at a due expiry, with the last period of its timer. -/
theorem witness_ExpiryWorks : let c (st : CtxState) : Context := { Context.reset with
      state := st, timer := 1, heard := true, newest := some ⟨5000000, 300000, 1000⟩, latest := some ⟨1132, 0, 0, 14250380, true, 1200000⟩
      attempts := 3, search := some ⟨0, 0, 800, 1, 1, 1, 8, false⟩ }
    let s (st : CtxState) := dueAt .h1 (c st) (inService .active)
    ((s .coasting).headTime.get .h1).expiry = some ⟨1002, 0⟩ ∧ 0 ≤ (s .coasting).time.timebase ∧
    ((s .coasting).ctx.get .h1).newest = some ⟨5000000, 300000, 1000⟩ ∧
    (((2 : Nat) : Int) = (((1002 : Nat) : Int) - ((1000 : Nat) : Int)) % 65536) ∧ ((s .coasting).ctx.get .h1).timer ≤ 1 ∧
    ((s .searching).ctx.get .h1).search = some ⟨0, 0, 800, 1, 1, 1, 8, false⟩ ∧
    (⟨0, 0, 800, 1, 1, 1, 8, false⟩ : SearchRecord).next = none ∧
    (⟨0, 0, 800, 1, 1, 1, 7, false⟩ : SearchRecord).next = some ⟨0, 0, 800, 1, 1, 1, 8, false⟩ ∧
    ((s .settling).ctx.get .h1).latest = some ⟨1132, 0, 0, 14250380, true, 1200000⟩ ∧ 3 ≤ ((s .settling).ctx.get .h1).attempts ∧
    Context.reset.latest = none ∧ (TrackSettings.reset.silenceLimit ≤ { Context.reset with silence := 19 }.silence + 1) ∧
    { Context.reset with state := .lost }.heard = false ∧ ¬1 < (c .coasting).timer ∧
    { HeadTime.reset with trigger := some ⟨1, 1, 1⟩ }.trigger = some ⟨1, 1, 1⟩ := by decide +kernel
theorem witness_ExpiryWorks_none : ∀ e, (State.reset.headTime.get .h1).expiry = some e → State.reset.time.timebase < e.time := by
  intro e h; cases h

theorem witness_ReportsAndTransmissions : let f : ReportFrame := ⟨.answer 3, []⟩
    let ev : HeldEvent := ⟨.timeQuality .free .locked 7, true⟩
    let s := { inService .start with report := { Report.reset with visiting := some .h0, partSlot := some ev } }
    s.report.occupancy < 48 ∧ s.restartMark = false ∧ { State.reset.mgmt with held := some f }.held = some f ∧ s.mgmt.held = none ∧
    ([some Head.h0, some .h1, some .h2, some .h3, none] : List (Option Head)) =
      [some .h0, some .h1, some .h2, some .h3] ++ none :: [] ∧
    s.report.partSlot = some ev ∧ (∀ n ∈ allHeads, s.report.headSlots.get n = none) ∧ ¬s.spill.drains.length < s.spill.count ∧
    s.uplink.sending = none ∧
    (∀ src ∈ [TxSource.report, .forward, .detached], { idleUplink with sending := some ⟨src, [1]⟩ }.sending = some ⟨src, [1]⟩) := by
  decide +kernel

end Sys2Proof.Tests
end

section
/-! PROOFS. Chapter 1, measurement arithmetic: facts about the stages' shared arithmetic first, in the order of the model's
definitions, then the statements on encoder error, corrected angles, sine, station position, measured sample, cell key and
capture mean. -/

namespace Sys2Proof.Proofs
open Sys2Proof Sys2Proof.Machine

/-! ### Rounded shares and clamps -/

/-- A difference times a fraction f / n, rounded with any offset below one unit, lies between 0 and the difference. This is
what keeps every interpolation of the part between its two entries (R9, R18). -/
theorem roundedShare_between {n f h : Int} (d : Int) (hf : 0 ≤ f) (hfn : f ≤ n) (hh : 0 ≤ h) (hhn : h < n) :
    min 0 d ≤ (d * f + h) / n ∧ (d * f + h) / n ≤ max 0 d := by
  have hn : 0 < n := by omega
  rcases le_total 0 d with hd | hd
  · have lo : 0 ≤ d * f := mul_nonneg hd hf
    have hi : d * f ≤ d * n := mul_le_mul_of_nonneg_left hfn hd
    rw [min_eq_left hd, max_eq_right hd]
    exact ⟨Int.ediv_nonneg (by omega) hn.le, Int.lt_add_one_iff.1 (Int.ediv_lt_of_lt_mul hn (by linarith))⟩
  · have lo : d * n ≤ d * f := mul_le_mul_of_nonpos_left hfn hd
    have hi : d * f ≤ 0 := mul_nonpos_of_nonpos_of_nonneg hd hf
    rw [min_eq_right hd, max_eq_left hd]
    exact ⟨Int.le_ediv_of_mul_le hn (by omega), Int.lt_add_one_iff.1 (Int.ediv_lt_of_lt_mul hn (by omega))⟩

theorem clampInt_mem {lo hi : Int} (h : lo ≤ hi) (v : Int) : lo ≤ clampInt lo hi v ∧ clampInt lo hi v ≤ hi := by
  unfold clampInt
  split
  · omega
  · split <;> omega

/-- A product over 2^30 stays within what it has at a factor of 2^30 either way (R20). -/
theorem over30_bounds {p d : Int} (lo : -(d * 1073741824) ≤ p) (hi : p ≤ d * 1073741824) :
    -d ≤ over30 p ∧ over30 p ≤ d := by
  unfold over30
  omega

theorem over30_nonneg {p : Int} (h : 0 ≤ p) : 0 ≤ over30 p := by
  unfold over30
  omega

/-- Rounding half up takes a product and its negative to opposite values, but where the product lies exactly midway. -/
theorem over30_neg (p : Int) : over30 (-p) = -over30 p + (if p % 1073741824 = 536870912 then 1 else 0) := by
  unfold over30
  split <;> omega

/-! ### Stages 1 and 2 -/

/-- The interpolated error lies between the two entries of its segment (R9). -/
theorem encoderError_between (t : List Int) (p : Int) :
    let i := (p / 65536).toNat
    let j := if i = 255 then 0 else i + 1
    min (t.getD i 0) (t.getD j 0) ≤ encoderError t p ∧ encoderError t p ≤ max (t.getD i 0) (t.getD j 0) := by
  intro i j
  have share := roundedShare_between (t.getD j 0 - t.getD i 0) (Int.emod_nonneg p (by norm_num))
    (Int.emod_lt_of_pos p (by norm_num : (0 : Int) < 65536)).le (by norm_num : (0 : Int) ≤ 32768) (by norm_num)
  have error : encoderError t p = t.getD i 0 + ((t.getD j 0 - t.getD i 0) * (p % 65536) + 32768) / 65536 := rfl
  omega

theorem getD_mem {t : List Int} {i : Nat} (h : i < t.length) : t.getD i 0 ∈ t := by
  rw [List.getD_eq_getElem _ _ h]
  exact List.getElem_mem h

/-- Settles O10: the error is a rounded share of the difference between two entries. -/
theorem encoderErrorInterpolates : Obligations.EncoderErrorInterpolates := by
  intro t p hp0 hp i j f
  have hi : i ≤ 255 := by omega
  have hj : j ≤ 255 := by simp only [j]; split <;> omega
  obtain ⟨lo, hi'⟩ := encoderError_between t p
  refine ⟨hi, rfl, lo, hi', fun len range => ?_⟩
  have ri := range (t.getD i 0) (getD_mem (by omega))
  have rj := range (t.getD j 0) (getD_mem (by omega))
  exact ⟨le_trans (le_min ri.1 rj.1) lo, le_trans hi' (max_le ri.2 rj.2)⟩

theorem psdClamped_iff (v : Int) : psdClamped v = true ↔ v > 2048 ∨ v < -2048 := by
  simp [psdClamped]

/-- A clamp tests its two limits in either order. -/
theorem clampInt_upper_first {lo hi : Int} (h : lo ≤ hi) (v : Int) :
    clampInt lo hi v = if v > hi then hi else if v < lo then lo else v := by
  unfold clampInt
  split_ifs <;> omega

theorem correctedAzimuth_mem (m : Measure) (r : RawSample) : 0 ≤ correctedAzimuth m r ∧ correctedAzimuth m r ≤ 16777215 :=
  ⟨Int.emod_nonneg _ (by norm_num), Int.lt_add_one_iff.1 (Int.emod_lt_of_pos _ (by norm_num))⟩

/-- Settles O11: the azimuth is a remainder, the offset and the elevation are clamped values. -/
theorem correctedAnglesInRange : Obligations.CorrectedAnglesInRange := by
  refine ⟨fun db v _ => ⟨?_, psdClamped_iff v⟩, fun m r => ?_⟩
  · rw [← clampInt_upper_first (by norm_num)]
    rfl
  · obtain ⟨az0, az1⟩ := correctedAzimuth_mem m r
    obtain ⟨el0, el1⟩ := clampInt_mem (by norm_num : (-4194304 : Int) ≤ 4194304) (rawCorrectedElevation m r)
    exact ⟨rfl, az0, az1, clampInt_upper_first (by norm_num) _, el0, el1⟩

/-! ### Stage 4: the quarter-turn sine -/

/-- The angle of a table entry lies in the quarter turn where the sine grows. -/
theorem entryAngle_mem {i : ℕ} (h : i ≤ 1024) : (i * Real.pi / 2048 : ℝ) ∈ Set.Icc (-(Real.pi / 2)) (Real.pi / 2) := by
  have hi : (i : ℝ) ≤ 1024 := by exact_mod_cast h
  have := Real.pi_pos
  constructor
  · have : (0 : ℝ) ≤ i * Real.pi / 2048 := by positivity
    linarith
  · nlinarith

/-- The table never decreases: the sine grows strictly over the quarter turn, so two entries, each within a half of its own
sine, differ by more than -1. -/
theorem sineTable_le_succ {i : ℕ} (h : i < 1024) : sineTable i ≤ sineTable (i + 1) := by
  have grows := Real.strictMonoOn_sin (entryAngle_mem h.le) (entryAngle_mem h)
    (by have := Real.pi_pos; push_cast; linarith)
  have near := abs_le.1 (Laws.sineTable_nearest i h.le)
  have near' := abs_le.1 (Laws.sineTable_nearest (i + 1) h)
  have : (sineTable i : ℝ) < (sineTable (i + 1) : ℕ) + 1 := by linarith [near.2, near'.1]
  exact Nat.lt_succ_iff.1 (by exact_mod_cast this)

/-- The interpolation of R18 on the segment of entry j, both its ends included. -/
theorem quarterSine_segment {j g : ℕ} (hg : g ≤ 4096) :
    quarterSine (4096 * j + g) =
      (sineTable j : Int) + (((sineTable (j + 1) : Int) - sineTable j) * (g : Int) + 2048) / 4096 := by
  unfold quarterSine
  obtain rfl | lt := hg.eq_or_lt
  · have q : (4096 * j + 4096) / 4096 = j + 1 := by omega
    have r : (4096 * j + 4096) % 4096 = 0 := by omega
    simp only [q, r, if_true]
    omega
  · have q : (4096 * j + g) / 4096 = j := by omega
    have r : (4096 * j + g) % 4096 = g := by omega
    simp only [q, r]
    split
    · next zero => subst zero; simp
    · rfl

theorem quarterSine_le_succ {v : ℕ} (h : v < 4194304) : quarterSine v ≤ quarterSine (v + 1) := by
  have split : v = 4096 * (v / 4096) + v % 4096 := by omega
  have grows : (sineTable (v / 4096) : Int) ≤ sineTable (v / 4096 + 1) := by
    exact_mod_cast sineTable_le_succ (by omega)
  rw [split, add_assoc, quarterSine_segment (by omega), quarterSine_segment (by omega)]
  have : ((sineTable (v / 4096 + 1) : Int) - sineTable (v / 4096)) * (v % 4096 : ℕ) ≤
      ((sineTable (v / 4096 + 1) : Int) - sineTable (v / 4096)) * (v % 4096 + 1 : ℕ) :=
    mul_le_mul_of_nonneg_left (by push_cast; omega) (by omega)
  exact add_le_add_right (Int.ediv_le_ediv (by norm_num) (by omega)) _

/-- The quarter-turn sine never decreases (R18). -/
theorem quarterSine_mono {v w : ℕ} (h : v ≤ w) (hw : w ≤ 4194304) : quarterSine v ≤ quarterSine w := by
  induction w, h using Nat.le_induction with
  | base => exact le_rfl
  | succ w _ ih => exact (ih (by omega)).trans (quarterSine_le_succ (by omega))

@[simp] theorem quarterSine_zero : quarterSine 0 = 0 := rfl

@[simp] theorem quarterSine_quarterTurn : quarterSine 4194304 = 1073741824 := rfl

theorem quarterSine_mem {v : ℕ} (h : v ≤ 4194304) : 0 ≤ quarterSine v ∧ quarterSine v ≤ 1073741824 :=
  ⟨by simpa using quarterSine_mono (Nat.zero_le v) h, by simpa using quarterSine_mono h le_rfl⟩

/-- Settles O12: the entries by Laws.sineTable_nearest; the rest by steps of one count within a segment. -/
theorem quarterSineInterpolates : Obligations.QuarterSineInterpolates := by
  refine ⟨Laws.sineTable_nearest, rfl, rfl, rfl, rfl, rfl, fun v _ => ?_, quarterSine_quarterTurn,
    fun _ => quarterSine_mem, fun _ _ => quarterSine_mono⟩
  rw [← quarterSine_segment (Nat.mod_lt v (by norm_num)).le, Nat.div_add_mod]

/-! ### Stage 4: the whole turn -/

/-- The quadrant and the offset of an angle, whole turns apart, give its sine by R19's table. -/
theorem sine_quadrant (q : ℕ) {u : ℕ} (k : Int) : q < 4 → u < 4194304 →
    sine (u + 4194304 * q + 16777216 * k) =
      match q with
      | 0 => quarterSine u
      | 1 => quarterSine (4194304 - u)
      | 2 => -quarterSine u
      | _ => -quarterSine (4194304 - u) := by
  intro hq hu
  have t : ((u + 4194304 * q + 16777216 * k : Int) % 16777216).toNat = u + 4194304 * q := by omega
  have d : (u + 4194304 * q) / 4194304 = q := by omega
  have r : (u + 4194304 * q) % 4194304 = u := by omega
  interval_cases q <;> simp only [sine, t, d, r]

/-- Every angle has a quadrant, an offset and a number of whole turns. -/
theorem angle_split (x : Int) : ∃ (q u : ℕ) (k : Int), q < 4 ∧ u < 4194304 ∧ x = u + 4194304 * q + 16777216 * k :=
  ⟨(x % 16777216 / 4194304).toNat, (x % 4194304).toNat, x / 16777216, by omega, by omega, by omega⟩

theorem sine_mem (x : Int) : -1073741824 ≤ sine x ∧ sine x ≤ 1073741824 := by
  obtain ⟨q, u, k, hq, hu, rfl⟩ := angle_split x
  have up := quarterSine_mem hu.le
  have down := quarterSine_mem (Nat.sub_le 4194304 u)
  rw [sine_quadrant q k hq hu]
  split <;> omega

/-- Settles O13: the four quadrants, then the range from that of the quarter-turn sine. -/
theorem sineByQuadrant : Obligations.SineByQuadrant := by
  refine ⟨fun u k hu => ⟨?_, ?_, ?_, ?_⟩, fun x => ⟨rfl, sine_mem x⟩, rfl, rfl, rfl, rfl⟩
  · simpa using sine_quadrant 0 k (by norm_num) hu
  · simpa using sine_quadrant 1 k (by norm_num) hu
  · simpa using sine_quadrant 2 k (by norm_num) hu
  · simpa using sine_quadrant 3 k (by norm_num) hu

/-! ### Stage 5 -/

/-- Within a quarter turn the cosine is not negative: the angle a quarter turn on lies in the first half turn (R20). -/
theorem cosine_nonneg {el : Int} (lo : -4194304 ≤ el) (hi : el ≤ 4194304) : 0 ≤ cosine el := by
  obtain rfl | below := hi.eq_or_lt
  · exact le_rfl
  · obtain ⟨q, u, k, hq, hu, split⟩ := angle_split (el + 4194304)
    have first : q = 0 ∨ q = 1 := by omega
    show 0 ≤ sine (el + 4194304)
    rw [split, sine_quadrant q k hq hu]
    obtain rfl | rfl := first
    · exact (quarterSine_mem hu.le).1
    · exact (quarterSine_mem (Nat.sub_le 4194304 u)).1

/-- A distance times a sine or cosine over 2^30 never exceeds the distance. -/
theorem over30_mul_bounds {d s : Int} (hd : 0 ≤ d) (lo : -1073741824 ≤ s) (hi : s ≤ 1073741824) :
    -d ≤ over30 (d * s) ∧ over30 (d * s) ≤ d :=
  over30_bounds (by nlinarith) (mul_le_mul_of_nonneg_left hi hd)

/-- Settles O14: h is a distance within d, and each coordinate a product of one of the two with a sine. -/
theorem stationPositionBounded : Obligations.StationPositionBounded := by
  refine ⟨fun d a el hd lo hi => ?_, over30_neg⟩
  intro h
  have cos0 := cosine_nonneg lo hi
  have h0 : 0 ≤ h := over30_nonneg (mul_nonneg hd cos0)
  have hmax : h ≤ d := (over30_mul_bounds hd (sine_mem _).1 (sine_mem _).2).2
  have within {s : Int} (hs : -1073741824 ≤ s ∧ s ≤ 1073741824) : -d ≤ over30 (h * s) ∧ over30 (h * s) ≤ d := by
    have := over30_mul_bounds h0 hs.1 hs.2
    omega
  obtain ⟨x0, x1⟩ := within (sine_mem (a + 4194304))
  obtain ⟨y0, y1⟩ := within (sine_mem a)
  obtain ⟨z0, z1⟩ := over30_mul_bounds hd (sine_mem el).1 (sine_mem el).2
  exact ⟨rfl, cos0, h0, hmax, x0, x1, y0, y1, z0, z1⟩

/-! ### Stages 3 and 6, and the sample as a whole -/

theorem saturate_eq (b : Int) : saturate b = max (-2147483648) (min 2147483647 b) := by
  simp only [saturate, clampInt, Config.coordMin, Config.coordMax]
  split_ifs <;> omega

/-- A coordinate is flagged exactly where saturation changes it (R22). -/
theorem saturates_iff (b : Int) : saturates b = true ↔ saturate b ≠ b := by
  simp only [saturates, saturate, clampInt, Config.coordMin, Config.coordMax, Bool.or_eq_true, decide_eq_true_eq]
  split_ifs <;> omega

theorem blockSaturated_iff (m : Measure) (v : Vec3) :
    blockSaturated m v = true ↔ saturate (rawBlock m v).x ≠ (rawBlock m v).x ∨
      saturate (rawBlock m v).y ≠ (rawBlock m v).y ∨ saturate (rawBlock m v).z ≠ (rawBlock m v).z := by
  simp only [blockSaturated, Bool.or_eq_true, saturates_iff, or_assoc]

/-- The distance lies from 0 to distance max, whatever its source (R13, R14). -/
theorem distanceOf_mem {m : Measure} {src : DistSource} {r : RawSample} {d : Int × Bool}
    (h : distanceOf m src r = some d) : 0 ≤ d.1 ∧ d.1 ≤ m.distanceMax := by
  cases src with
  | interferometer =>
    obtain rfl := Option.some.inj h
    exact clampInt_mem (by omega) _
  | adm =>
    obtain rfl := Option.some.inj h
    simp only [admDistance]
    split <;> omega
  | none => cases h

theorem distanceOf_fst (m : Measure) (src : DistSource) (r : RawSample) :
    (distanceOf m src r).map Prod.fst = match src with
      | .interferometer => some (clampInt 0 m.distanceMax (m.anchor + interferometerTerm r.count m.countScale))
      | .adm => some (if (r.adm : Int) > m.distanceMax then (m.distanceMax : Int) else (r.adm : Int))
      | .none => none := by
  cases src with
  | interferometer => rfl
  | adm => simp [distanceOf, admDistance]
  | none => rfl

/-- DIST_RANGE is set where the distance of the source in use lies out of range (R13, R14). -/
theorem distanceOf_snd (m : Measure) (src : DistSource) (r : RawSample) :
    (distanceOf m src r).any Prod.snd = true ↔
      (src = .interferometer ∧ (m.anchor + interferometerTerm r.count m.countScale < 0 ∨
        m.anchor + interferometerTerm r.count m.countScale > m.distanceMax)) ∨
      (src = .adm ∧ (r.adm : Int) > m.distanceMax) := by
  cases src <;> simp [distanceOf, admDistance, interferometerDistance]

theorem distanceOf_eq_none (m : Measure) (src : DistSource) (r : RawSample) : distanceOf m src r = none ↔ src = .none := by
  cases src <;> simp [distanceOf]

section
variable (m : Measure) (src : DistSource) (ts : Int) (r : RawSample)

theorem measureSample_dist : (measureSample m src ts r).dist = (distanceOf m src r).map Prod.fst := rfl

/-- The elevation flag is the clamp's condition (R12). -/
theorem measureSample_elevClamp : (measureSample m src ts r).flags.elevClamp = true ↔
    rawCorrectedElevation m r > 4194304 ∨ rawCorrectedElevation m r < -4194304 := by
  simp [measureSample]

theorem measureSample_psdClamp : (measureSample m src ts r).flags.psdClamp = true ↔
    r.psdX > 2048 ∨ r.psdX < -2048 ∨ r.psdY > 2048 ∨ r.psdY < -2048 := by
  simp only [measureSample, Bool.or_eq_true, psdClamped_iff, or_assoc]

theorem measureSample_noDist : (measureSample m src ts r).flags.noDist = true ↔ src = .none := by
  simp [measureSample, distanceOf_eq_none]

theorem measureSample_block_none : (measureSample m src ts r).block = none ↔ src = .none := by
  simp [measureSample, distanceOf_eq_none]

/-- With a distance there is a block position, of the pose generation in use, flagged where it saturates (R22). -/
theorem measureSample_block {d : Int} (h : (measureSample m src ts r).dist = some d) :
    let v := stationPosition d (correctedAzimuth m r) (correctedElevation m r)
    (measureSample m src ts r).block = some ⟨blockPosition m v, m.poseGen⟩ ∧
      (measureSample m src ts r).flags.coordSat = blockSaturated m v := by
  obtain ⟨p, hp, rfl⟩ := Option.map_eq_some_iff.1 h
  simp [measureSample, hp]

end

/-- Settles O15: each field from its stage's lemma. -/
theorem measuredSampleFollowsStages : Obligations.MeasuredSampleFollowsStages := by
  intro m src ts r out raw dmax
  refine ⟨rfl, rfl, rfl, rfl, rfl, rfl, rfl, ?dist, ?range, distanceOf_snd m src r, decide_eq_true_iff,
    measureSample_noDist m src ts r, measureSample_elevClamp m src ts r, measureSample_psdClamp m src ts r,
    measureSample_block_none m src ts r, ?noCoord, ?block⟩
  case dist => exact (distanceOf_fst m src r).trans (by cases src <;> rfl)
  case range =>
    intro d hd
    obtain ⟨p, hp, rfl⟩ := Option.map_eq_some_iff.1 hd
    exact distanceOf_mem hp
  case noCoord => rintro rfl; rfl
  case block =>
    intro d hd v row bx by_ bz sat
    obtain ⟨block, coordSat⟩ := measureSample_block m src ts r hd
    have hsat : saturate = sat := funext saturate_eq
    rw [block, coordSat, blockSaturated_iff, blockPosition, hsat]
    exact ⟨rfl, Iff.rfl⟩

/-! ### Stage 7 -/

/-- A 32-bit coordinate over a cell edge of 2^16 or more is a signed 16-bit cell index (R23). -/
theorem cellIndex_mem {shift : ℕ} {b : Int} (hs : 16 ≤ shift) (lo : -2147483648 ≤ b) (hi : b ≤ 2147483647) :
    -32768 ≤ b / 2 ^ shift ∧ b / 2 ^ shift ≤ 32767 := by
  have edge : (2 : Int) ^ 16 ≤ 2 ^ shift := pow_le_pow_right₀ (by norm_num) hs
  have pos : (0 : Int) < 2 ^ shift := by positivity
  exact ⟨Int.le_ediv_of_mul_le pos (by omega), Int.lt_add_one_iff.1 (Int.ediv_lt_of_lt_mul pos (by omega))⟩

theorem cellKeyOf_eq (shift : ℕ) (b : Vec3) : cellKeyOf shift b = ⟨b.x / 2 ^ shift, b.y / 2 ^ shift, b.z / 2 ^ shift⟩ := by
  simp [cellKeyOf]

/-- The hash is the non-negative remainder by the bucket count (R24). -/
theorem cellHash_cast {count : ℕ} (h : 0 < count) (k : CellKey) :
    (cellHash count k : Int) = (k.cx + 31 * k.cy + 961 * k.cz) % (count : Int) :=
  Int.toNat_of_nonneg (Int.emod_nonneg _ (by omega))

theorem cellHash_lt {count : ℕ} (h : 0 < count) (k : CellKey) : cellHash count k < count := by
  have := Int.emod_lt_of_pos (k.cx + 31 * k.cy + 961 * k.cz) (Int.natCast_pos.2 h)
  rw [← cellHash_cast h] at this
  omega

/-- Settles O16: an index for each coordinate, and the hash as a remainder below the bucket count. -/
theorem cellKeyAndBucketAddress : Obligations.CellKeyAndBucketAddress := by
  intro shift b base count hs _ hc x0 x1 y0 y1 z0 z1 k h
  have hk : k = _ := cellKeyOf_eq shift b
  have hlt : h < count := cellHash_lt hc k
  have fits : base + h * 64 + 64 ≤ base + count * 64 := by omega
  obtain ⟨cx0, cx1⟩ := cellIndex_mem hs x0 x1
  obtain ⟨cy0, cy1⟩ := cellIndex_mem hs y0 y1
  obtain ⟨cz0, cz1⟩ := cellIndex_mem hs z0 z1
  rw [hk]
  exact ⟨rfl, cx0, cx1, cy0, cy1, cz0, cz1, hlt, cellHash_cast hc k, rfl, fits⟩

/-! ### Stage 9 -/

theorem meanOf_of_nonneg {sum : Int} (h : 0 ≤ sum) (k : ℕ) : meanOf sum k = (2 * sum + k) / (2 * k) := if_pos h

theorem meanOf_of_neg {sum : Int} (h : sum < 0) (k : ℕ) : meanOf sum k = -((2 * -sum + k) / (2 * k)) := if_neg (by omega)

/-- A quotient rounded half up: at most half above the exact one, and less than half below it. -/
theorem roundedQuotient_near (a : Int) {k : ℕ} (hk : 0 < k) :
    2 * (k * ((2 * a + k) / (2 * k)) - a) ≤ k ∧ -(k : Int) < 2 * (k * ((2 * a + k) / (2 * k)) - a) := by
  have euclid := Int.mul_ediv_add_emod (2 * a + k) (2 * k)
  have r0 := Int.emod_nonneg (2 * a + k) (by omega : (2 * k : Int) ≠ 0)
  have r1 := Int.emod_lt_of_pos (2 * a + k) (by omega : (0 : Int) < 2 * k)
  rw [mul_assoc] at euclid
  omega

/-- The mean is within half of the exact quotient, and half away only on the side away from zero (R27). -/
theorem meanOf_near (sum : Int) {k : ℕ} (hk : 0 < k) :
    2 * (k * meanOf sum k - sum) ≤ k ∧ -(k : Int) ≤ 2 * (k * meanOf sum k - sum) ∧
    (2 * (k * meanOf sum k - sum) = k → 0 ≤ sum) ∧ (2 * (k * meanOf sum k - sum) = -k → sum ≤ 0) := by
  rcases le_or_gt 0 sum with h | h
  · rw [meanOf_of_nonneg h]
    have := roundedQuotient_near sum hk
    omega
  · rw [meanOf_of_neg h, mul_neg]
    have := roundedQuotient_near (-sum) hk
    omega

/-- A mean of values in a range lies in it: half a unit cannot take the nearest integer past an integer bound. -/
theorem meanOf_mem {sum lo hi : Int} {k : ℕ} (hk : 0 < k) (hlo : k * lo ≤ sum) (hhi : sum ≤ k * hi) :
    lo ≤ meanOf sum k ∧ meanOf sum k ≤ hi := by
  obtain ⟨above, below, -, -⟩ := meanOf_near sum hk
  constructor <;> by_contra! out
  · nlinarith
  · nlinarith

/-- Settles O18: the formula by sign, the nearest integer, and the range by the bounds on the sum. -/
theorem meanRoundsToNearest : Obligations.MeanRoundsToNearest := by
  refine ⟨fun sum k hk => ⟨fun h => meanOf_of_nonneg h.le k, fun h => meanOf_of_neg h k, ?_, meanOf_near sum hk⟩,
    fun l lo hi hl range => meanOf_mem (List.length_pos_of_ne_nil hl) ?_ ?_⟩
  · rw [meanOf_of_nonneg le_rfl]
    exact Int.ediv_eq_zero_of_lt (by omega) (by omega)
  · simpa using List.card_nsmul_le_sum l lo fun x hx => (range x hx).1
  · simpa using List.sum_le_card_nsmul l hi fun x hx => (range x hx).2

end Sys2Proof.Proofs
end

section
/-! PROOFS. Chapter 2, beam lock and head steering: the ring offsets and their inverse, the course of a search and its
statement; then what a frame on a head port, the tests of a sample and a raised fault do, and the statement on discarded
samples. -/

namespace Sys2Proof.Proofs
open Sys2Proof Sys2Proof.Machine

/-! ### The offsets of a ring, side by side -/

/-- A position of a ring lies on one of its four sides of 2 r offsets each. -/
theorem ring_side {r p : ℕ} (h1 : 1 ≤ p) (h8 : p ≤ 8 * r) :
    ∃ i, 1 ≤ i ∧ i ≤ 2 * r ∧ (p = i ∨ p = 2 * r + i ∨ p = 4 * r + i ∨ p = 6 * r + i) := by
  by_cases h2 : p ≤ 2 * r
  · exact ⟨p, by omega⟩
  by_cases h4 : p ≤ 4 * r
  · exact ⟨p - 2 * r, by omega⟩
  by_cases h6 : p ≤ 6 * r
  · exact ⟨p - 4 * r, by omega⟩
  · exact ⟨p - 6 * r, by omega⟩

section
variable {r i : ℕ} (h1 : 1 ≤ i) (h2 : i ≤ 2 * r)
include h1 h2

theorem ringOffset_right : ringOffset r i = ((r : Int), -(r : Int) + i) := by
  rw [ringOffset, if_neg (by omega), if_pos h2]

theorem ringOffset_top : ringOffset r (2 * r + i) = ((r : Int) - i, (r : Int)) := by
  rw [ringOffset, if_neg (by omega), if_neg (by omega), if_pos (by omega)]
  simp

theorem ringOffset_left : ringOffset r (4 * r + i) = (-(r : Int), (r : Int) - i) := by
  rw [ringOffset, if_neg (by omega), if_neg (by omega), if_neg (by omega), if_pos (by omega)]
  simp

theorem ringOffset_bottom : ringOffset r (6 * r + i) = (-(r : Int) + i, -(r : Int)) := by
  rw [ringOffset, if_neg (by omega), if_neg (by omega), if_neg (by omega), if_neg (by omega)]
  simp

end

theorem ringOffset_centre (p : ℕ) : ringOffset 0 p = (0, 0) := rfl

/-- The position in ring r of an offset that lies on it: each side holds the corner it ends at, not the one it begins at. -/
def ringPosition (r : ℕ) (o : Int × Int) : ℕ :=
  if o.1 = r ∧ o.2 ≠ -r then (r + o.2).toNat
  else if o.2 = r then 2 * r + (r - o.1).toNat
  else if o.1 = -r then 4 * r + (r - o.2).toNat
  else 6 * r + (r + o.1).toNat

/-- Every position of a ring is that of its offset, so the ring holds no offset twice. -/
theorem ringPosition_ringOffset {r p : ℕ} (h1 : 1 ≤ p) (h8 : p ≤ 8 * r) : ringPosition r (ringOffset r p) = p := by
  obtain ⟨i, i1, i2, rfl | rfl | rfl | rfl⟩ := ring_side h1 h8
  · rw [ringOffset_right i1 i2, ringPosition]
    split_ifs <;> omega
  · rw [ringOffset_top i1 i2, ringPosition]
    split_ifs <;> omega
  · rw [ringOffset_left i1 i2, ringPosition]
    split_ifs <;> omega
  · rw [ringOffset_bottom i1 i2, ringPosition]
    split_ifs <;> omega

/-- The offsets of ring r are at most r steps out on each axis, and r steps out on one. -/
theorem ringOffset_onRing {r p : ℕ} (h1 : 1 ≤ p) (h8 : p ≤ 8 * r) :
    max (ringOffset r p).1.natAbs (ringOffset r p).2.natAbs = r := by
  obtain ⟨i, i1, i2, rfl | rfl | rfl | rfl⟩ := ring_side h1 h8
  · rw [ringOffset_right i1 i2]
    omega
  · rw [ringOffset_top i1 i2]
    omega
  · rw [ringOffset_left i1 i2]
    omega
  · rw [ringOffset_bottom i1 i2]
    omega

/-- Every offset that lies on ring r is taken, at its position. -/
theorem ringOffset_ringPosition {r : ℕ} (hr : 1 ≤ r) {x y : Int} (h : max x.natAbs y.natAbs = r) :
    1 ≤ ringPosition r (x, y) ∧ ringPosition r (x, y) ≤ 8 * r ∧ ringOffset r (ringPosition r (x, y)) = (x, y) := by
  unfold ringPosition
  split_ifs with right top left <;> dsimp only at *
  · rw [ringOffset_right (by omega) (by omega), Prod.mk.injEq]
    omega
  · rw [ringOffset_top (by omega) (by omega), Prod.mk.injEq]
    omega
  · rw [ringOffset_left (by omega) (by omega), Prod.mk.injEq]
    omega
  · rw [ringOffset_bottom (by omega) (by omega), Prod.mk.injEq]
    omega

theorem ringOffset_eq_iff {r : ℕ} (hr : 1 ≤ r) (x y : Int) :
    (∃ p, 1 ≤ p ∧ p ≤ 8 * r ∧ ringOffset r p = (x, y)) ↔ max x.natAbs y.natAbs = r := by
  constructor
  · rintro ⟨p, h1, h8, h⟩
    have onRing := ringOffset_onRing h1 h8
    rwa [h] at onRing
  · exact fun h => ⟨_, ringOffset_ringPosition hr h⟩

theorem ringOffsets_nodup (r : ℕ) : ((List.range (8 * r)).map fun i => ringOffset r (i + 1)).Nodup := by
  refine List.Nodup.map_on (fun i hi j hj h => ?_) List.nodup_range
  have hi := ringPosition_ringOffset (r := r) (p := i + 1) (by omega) (List.mem_range.1 hi)
  have hj := ringPosition_ringOffset (r := r) (p := j + 1) (by omega) (List.mem_range.1 hj)
  rw [h, hj] at hi
  omega

/-! ### The course of a search -/

theorem clampInt_eq {lo hi : Int} (h : lo ≤ hi) (v : Int) : clampInt lo hi v = max lo (min hi v) := by
  unfold clampInt
  split_ifs <;> omega

theorem searchNext_centre {q : SearchRecord} (h : q.ring = 0) : q.next = some { q with ring := 1, pos := 1 } :=
  if_pos h

theorem searchNext_within {q : SearchRecord} (h : q.pos < 8 * q.ring) : q.next = some { q with pos := q.pos + 1 } := by
  rw [SearchRecord.next, if_neg (by omega), if_pos h]

theorem searchNext_ringEnd {q : SearchRecord} (hr : 1 ≤ q.ring) (h : q.pos = 8 * q.ring) :
    q.next = if q.ring < q.rings then some { q with ring := q.ring + 1, pos := 1 } else none := by
  rw [SearchRecord.next, if_neg (by omega), if_neg (by omega)]

/-- The position a search has reached after k moves from record q, or none once it has ended. -/
def searchAfter (k : ℕ) (q : SearchRecord) : Option SearchRecord :=
  (fun o : Option SearchRecord => o.bind SearchRecord.next)^[k] (some q)

theorem searchAfter_succ (k : ℕ) (q : SearchRecord) : searchAfter (k + 1) q = (searchAfter k q).bind SearchRecord.next :=
  Function.iterate_succ_apply' _ _ _

theorem searchAfter_add (j k : ℕ) (q : SearchRecord) : searchAfter (j + k) q = (searchAfter j q).bind (searchAfter k) := by
  induction k with
  | zero => exact (Option.bind_fun_some _).symm
  | succ k ih =>
    rw [← Nat.add_assoc, searchAfter_succ, ih, Option.bind_assoc]
    simp only [← searchAfter_succ]

/-- A search that has not ended has not ended earlier either. -/
theorem searchAfter_ne_none_of_le {j k : ℕ} (h : j ≤ k) {q : SearchRecord} (hk : searchAfter k q ≠ none) :
    searchAfter j q ≠ none := by
  obtain ⟨d, rfl⟩ := Nat.exists_eq_add_of_le h
  intro hj
  rw [searchAfter_add, hj] at hk
  exact hk rfl

/-- Along a ring the moves count up its positions. -/
theorem searchAfter_along_ring (q : SearchRecord) {r k : ℕ} (hk : k < 8 * r) :
    searchAfter k { q with ring := r, pos := 1 } = some { q with ring := r, pos := k + 1 } := by
  induction k with
  | zero => rfl
  | succ k ih =>
    rw [searchAfter_succ, ih (by omega)]
    exact searchNext_within hk

/-- The 8 r moves from the first position of ring r lead to that of the next ring, or past the last ring to the end. -/
theorem searchAfter_ring (q : SearchRecord) {r : ℕ} (hr : 1 ≤ r) : searchAfter (8 * r) { q with ring := r, pos := 1 } =
    if r < q.rings then some { q with ring := r + 1, pos := 1 } else none := by
  obtain ⟨k, hk⟩ : ∃ k, 8 * r = k + 1 := ⟨8 * r - 1, by omega⟩
  rw [hk, searchAfter_succ, searchAfter_along_ring q (by omega)]
  exact searchNext_ringEnd hr hk.symm

/-- Rings 1 to r hold 4 r (r + 1) positions, and the next one is the first of ring r + 1. -/
theorem searchAfter_rings (q : SearchRecord) {r : ℕ} (h : r < q.rings) :
    searchAfter (4 * r * (r + 1)) { q with ring := 1, pos := 1 } = some { q with ring := r + 1, pos := 1 } := by
  induction r with
  | zero => rfl
  | succ r ih =>
    have count : 4 * (r + 1) * (r + 1 + 1) = 4 * r * (r + 1) + 8 * (r + 1) := by ring
    rw [count, searchAfter_add, ih (by omega), Option.bind_some, searchAfter_ring q (Nat.le_add_left 1 r), if_pos h]

/-- A search of R rings has 4 R (R + 1) positions: the last ring's last is still one, and the move from it ends the search. -/
theorem searchAfter_length (q : SearchRecord) (hr : q.ring = 1) (hp : q.pos = 1) (h : 1 ≤ q.rings) :
    (∀ k, k < 4 * q.rings * (q.rings + 1) → searchAfter k q ≠ none) ∧ searchAfter (4 * q.rings * (q.rings + 1)) q = none := by
  obtain ⟨r, hR⟩ : ∃ r, q.rings = r + 1 := ⟨q.rings - 1, by omega⟩
  have count : 4 * q.rings * (q.rings + 1) = 4 * r * (r + 1) + 8 * (r + 1) := by rw [hR]; ring
  have start : { q with ring := 1, pos := 1 } = q := by cases q; cases hr; cases hp; rfl
  have enter : searchAfter (4 * r * (r + 1)) q = some { q with ring := r + 1, pos := 1 } :=
    start ▸ searchAfter_rings q (by omega)
  have last : searchAfter (4 * r * (r + 1) + (8 * r + 7)) q ≠ none := by
    rw [searchAfter_add, enter, Option.bind_some, searchAfter_along_ring q (by omega)]
    exact Option.some_ne_none _
  constructor
  · exact fun k hk => searchAfter_ne_none_of_le (by omega) last
  · rw [count, searchAfter_add, enter, Option.bind_some, searchAfter_ring q (Nat.le_add_left 1 r), if_neg (by omega)]

/-- Settles O26: the rings by the inverse of their offsets, the count ring by ring. -/
theorem searchVisitsSquareRings : Obligations.SearchVisitsSquareRings := by
  refine ⟨fun r hr => ⟨ringOffsets_nodup r, ringOffset_eq_iff hr, fun p p1 p2 => ⟨ringOffset_right p1 p2,
      ringOffset_top p1 p2, ringOffset_left p1 p2, ringOffset_bottom p1 p2⟩⟩,
    fun q => ?angles, fun q => searchAfter_length q, fun q r1 rR p1 p8 => ⟨searchNext_within, fun h => ?ringEnd⟩,
    fun q h => ⟨searchNext_centre h, ringOffset_centre q.pos⟩⟩
  case angles => exact Prod.ext rfl (clampInt_eq (by norm_num) _)
  case ringEnd =>
    rw [searchNext_ringEnd r1 h]
    rcases rR.lt_or_eq with lt | eq
    · rw [if_pos lt, if_neg lt.ne]
    · rw [if_neg eq.not_lt, if_pos eq]

/-! ### A frame on a head port -/

/-- A good frame brings its head port UP and lets an idle transmitter choose, and touches nothing else (R146, R149). -/
theorem linkUp_head (s : State) (n : Head) :
    s.linkUp (.head n) = { s with ports := s.ports.set n (Safety.headUp s n) } := by
  simp [State.linkUp, State.kickHead, State.setPort, Safety.headUp]

/-- A good Sample frame of the right length reaches the tracking unit through its port (R147). -/
theorem exec_sampleFrame {n : Head} {f : List Byte} {s : State} (good : frameBad f = false) (kind : frameKind f = 1)
    (dest : frameDest f = 0) (length : frameLength f = 22) :
    exec (.sampleFrame n f) s =
      .next ({ s with ports := s.ports.set n (Safety.headUp s n) }.takeSample n (decodeSample (framePayload f))) := by
  have run : exec (.sampleFrame n f) s = .next (s.receive (.head n) f) := rfl
  rw [run, State.receive, good, if_neg Bool.false_ne_true, linkUp_head, State.route, State.routeHead, kind, dest, length]
  rfl

/-! ### The tests of a sample, and a fault raised -/

theorem takesSamples_iff (s : State) (n : Head) : s.takesSamples n = true ↔ Safety.samplesTaken s n := by
  simp [State.takesSamples, Safety.samplesTaken, and_assoc]

theorem indexAccepted_iff (l : ℕ) (last : Option ℕ) (i : ℕ) : indexAccepted l last i = true ↔
    (i = l ∧ last ≠ some l) ∨ (i = (l + 65535) % 65536 ∧ last ≠ some i ∧ last ≠ some l) := by
  have before : indexBefore l = (l + 65535) % 65536 := rfl
  unfold indexAccepted
  split_ifs with here prev
  · subst here
    simp only [decide_eq_true_eq, true_and]
    exact ⟨Or.inl, fun h => h.elim id fun earlier => earlier.2.2⟩
  · simp [here, ← before, ← prev]
  · simp [here, prev, ← before]

theorem sampleAccepted_iff (s : State) (n : Head) (r : RawSample) :
    s.sampleAccepted n r = true ↔ Safety.indexPasses s n r.index := by
  simp only [State.sampleAccepted, latestIndex, Option.any_map, Option.any_eq_true, indexAccepted_iff,
    Safety.indexPasses]

theorem write_first {f : FaultRecord} (h : f.first.isNone) (kind : FaultKind) (time detail : ℕ) :
    f.write kind time detail = ⟨some ⟨kind, time, detail⟩, f.further⟩ := by
  rw [FaultRecord.write, Option.isNone_iff_eq_none.1 h]

theorem write_further {f : FaultRecord} (h : ¬f.first.isNone) (kind : FaultKind) (time detail : ℕ) :
    f.write kind time detail = ⟨f.first, insertKind kind f.further⟩ := by
  obtain ⟨x, hx⟩ := Option.ne_none_iff_exists'.1 (mt Option.isNone_iff_eq_none.2 h)
  rw [FaultRecord.write, hx]

theorem faultRecord_eq (s : State) (k : Option Head) : s.faultRecord k = Safety.faultsOf s k := by cases k <;> rfl

theorem setFault_eq (s : State) (k : Option Head) (f : FaultRecord) : s.setFault k f = Safety.withFaults s k f s.report := by
  cases k <;> rfl

theorem setFault_placeEvent (s : State) (k : Option Head) (f : FaultRecord) (e : Event) :
    (s.setFault k f).placeEvent k e = Safety.withFaults s k f (Safety.withEvent s.report k e) := by cases k <;> rfl

/-- A fault goes into its subject's record, and a first one into the subject's event slot too (R182). -/
theorem raise_eq_raised (s : State) (k : Option Head) (kind : FaultKind) (detail : ℕ) :
    s.raise k kind detail = Safety.raised s k kind detail := by
  rw [State.raise, Safety.raised, faultRecord_eq]
  split_ifs with first
  · rw [write_first first, setFault_placeEvent]
  · rw [write_further first, setFault_eq]

theorem takeSample_of_not_taken {s : State} {n : Head} (r : RawSample) (h : ¬Safety.samplesTaken s n) :
    s.takeSample n r = s := by
  rw [← takesSamples_iff] at h
  simp [State.takeSample, h]

theorem takeSample_of_sequence {s : State} {n : Head} {r : RawSample} (h : Safety.samplesTaken s n)
    (out : ¬Safety.indexPasses s n r.index) :
    s.takeSample n r = Safety.raised s (some n) .sampleSequence r.index := by
  rw [← takesSamples_iff] at h
  rw [← sampleAccepted_iff] at out
  simp [State.takeSample, h, out, raise_eq_raised]

/-- Settles O31: the port has heard the frame before either test of the sample, and both tests read other parts of the
state. -/
theorem sampleDiscarded : Obligations.SampleDiscarded := by
  intro n f s good kind dest length r heard
  have run : exec (.sampleFrame n f) s = .next (heard.takeSample n r) := exec_sampleFrame good kind dest length
  rw [run]
  exact ⟨fun h => congrArg _ (takeSample_of_not_taken r h), fun h out => congrArg _ (takeSample_of_sequence h out)⟩

end Sys2Proof.Proofs
end

section
/-! PROOFS. Chapter 4, captures: how a settle queue is worked. -/

namespace Sys2Proof.Proofs
open Sys2Proof Sys2Proof.Machine

/-! ### The settle queue -/

/-- The queue is kept for a sample: same slot, same pose generation, the next sync index (R88, steps 1 and 2). -/
def QueueKept (q : SettleQueue) (c : Candidate) (gen i : ℕ) : Prop :=
  ∃ old e, q.candidate = some old ∧ old.bucket = c.bucket ∧ old.slot = c.slot ∧ q.poseGen = some gen ∧
    q.entries.getLast? = some e ∧ i = (e.index + 1) % 65536

section
variable {q : SettleQueue} {c : Candidate} {gen i : ℕ}

/-- Of a kept queue with the entry added, at most the newest 12 entries stay (R88, steps 4 and 5). -/
theorem push_of_kept (h : QueueKept q c gen i) (pos : Vec3) (win : Bool) :
    q.push c gen i pos win =
      ⟨List.drop (q.entries.length - 11) (q.entries ++ [⟨i, pos, win⟩]), q.candidate, q.poseGen⟩ := by
  obtain ⟨old, e, candidate, bucket, slot, pose, newest, next⟩ := h
  simp [SettleQueue.push, candidate, bucket, slot, pose, newest, next, indexAfter, Config.indexModulus, Config.settlePlaces]

theorem push_of_not_kept (h : ¬QueueKept q c gen i) (pos : Vec3) (win : Bool) :
    q.push c gen i pos win = ⟨[⟨i, pos, win⟩], some c, some gen⟩ := by
  refine if_neg fun keep => h ?_
  split at keep
  case h_1 old candidate =>
    simp only [Bool.and_eq_true, decide_eq_true_eq, Option.any_eq_true] at keep
    obtain ⟨⟨⟨bucket, slot⟩, pose⟩, e, newest, next⟩ := keep
    exact ⟨old, e, candidate, bucket, slot, pose, newest, next⟩
  case h_2 => cases keep

theorem push_heading_of_kept (h : QueueKept q c gen i) (pos : Vec3) (win : Bool) :
    (q.push c gen i pos win).candidate = q.candidate ∧ (q.push c gen i pos win).poseGen = q.poseGen := by
  rw [push_of_kept h]
  exact ⟨rfl, rfl⟩

theorem push_entries_of_room (h : QueueKept q c gen i) (pos : Vec3) (win : Bool) (room : q.entries.length < 12) :
    (q.push c gen i pos win).entries = q.entries ++ [⟨i, pos, win⟩] := by
  rw [push_of_kept h, Nat.sub_eq_zero_of_le (by omega), List.drop_zero]

theorem push_entries_of_full (h : QueueKept q c gen i) (pos : Vec3) (win : Bool) (full : q.entries.length = 12) :
    (q.push c gen i pos win).entries = q.entries.tail ++ [⟨i, pos, win⟩] := by
  rw [push_of_kept h, full, List.drop_append_of_le_length (by omega), List.drop_one]

/-- Whatever the queue held before, it holds at most 12 entries after. -/
theorem push_length_le (q : SettleQueue) (c : Candidate) (gen i : ℕ) (pos : Vec3) (win : Bool) :
    (q.push c gen i pos win).entries.length ≤ 12 := by
  by_cases kept : QueueKept q c gen i
  · rw [push_of_kept kept, List.length_drop, List.length_append, List.length_singleton]
    omega
  · simp [push_of_not_kept kept]

/-- The new entry's index follows that of the newest one in a kept queue, and a queue begun afresh holds one entry only. -/
theorem push_consecutive (c : Candidate) (gen i : ℕ) (pos : Vec3) (win : Bool)
    (consecutive : q.entries.IsChain fun a b => b.index = (a.index + 1) % 65536) :
    (q.push c gen i pos win).entries.IsChain fun a b => b.index = (a.index + 1) % 65536 := by
  by_cases kept : QueueKept q c gen i
  · rw [push_of_kept kept]
    obtain ⟨old, e, -, -, -, -, newest, next⟩ := kept
    refine (consecutive.append (.singleton _) ?_).drop _
    simpa [newest] using next
  · rw [push_of_not_kept kept]
    exact .singleton _

end

/-- Settles O35: a kept queue by its equation, one begun afresh by the other; the bound and the indices hold in both. -/
theorem settleQueueWorked : Obligations.SettleQueueWorked := by
  intro q c gen i pos win kept q'
  refine ⟨fun h => ?_, fun h => push_of_not_kept h pos win, fun _ => push_length_le q c gen i pos win,
    push_consecutive c gen i pos win⟩
  obtain ⟨candidate, pose⟩ := push_heading_of_kept h pos win
  exact ⟨candidate, pose, push_entries_of_room h pos win, push_entries_of_full h pos win⟩

end Sys2Proof.Proofs
end

section
/-! PROOFS. Chapter 6, table memory: what the controller grants at a grant point. -/

namespace Sys2Proof.Proofs
open Sys2Proof Sys2Proof.Machine

/-! ### The grant -/

/-- Where 8 refreshes are owed no request is looked at (R133). -/
theorem granted_of_owed_full {s : State} (h : 8 ≤ s.mem.owed) : s.granted = some .refresh := if_pos h

theorem granted_of_request {s : State} {a : Access} (h : s.mem.owed < 8)
    (first : (requesterOrder s.mem.x1 s.mem.x2 s.mem.x3).findSome? s.firstRequest = some a) : s.granted = some a := by
  rw [State.granted, if_neg (Nat.not_le.2 h), first]

theorem granted_of_no_request {s : State} (h : s.mem.owed < 8)
    (idle : (requesterOrder s.mem.x1 s.mem.x2 s.mem.x3).findSome? s.firstRequest = none) :
    s.granted = if s.mem.owed = 0 then none else some .refresh := by
  rw [State.granted, if_neg (Nat.not_le.2 h), idle]
  simp only [Nat.pos_iff_ne_zero, ite_not]

/-- Settles O27: the eight rows by the table; a search of the order ends at the first requester with a request, or finds none. -/
theorem grantFollowsOrder : Obligations.GrantFollowsOrder := by
  refine ⟨⟨rfl, rfl, rfl, rfl, rfl, rfl, rfl, rfl⟩, fun _ => granted_of_owed_full, ?_, ?_⟩
  · rintro s q a room ⟨request, before, after, order, none_before⟩
    exact granted_of_request room (List.findSome?_eq_some_iff.2 ⟨before, q, after, order, request, none_before⟩)
  · intro s room idle
    exact granted_of_no_request room (List.findSome?_eq_none_iff.2 fun q _ => idle q)

end Sys2Proof.Proofs
end

section
/-! PROOFS. Chapter 7, links: the tests and the check of a frame, the frames no port routes, and what a port does with a frame
it discards. -/

namespace Sys2Proof.Proofs
open Sys2Proof Sys2Proof.Machine

/-! ### The tests and the check of a frame -/

theorem frameBad_iff (f : List Byte) : frameBad f = true ↔ f.length < 8 ∨ natAt 5 1 f > 60 ∨
    f.length ≠ 8 + natAt 5 1 f ∨ natAt (6 + natAt 5 1 f) 2 f ≠ (crc (f.take (6 + natAt 5 1 f))).toNat := by
  simp only [frameBad, frameLength, Bool.or_eq_true, decide_eq_true_eq, bne_iff_ne, or_assoc, gt_iff_lt]

/-- The bit shifted out is bit 15, and 4,129 comes in where it differs from the data bit (R145). -/
theorem crcBit_eq (r : BitVec 16) (bit : Bool) :
    crcBit r bit = if r.getLsbD 15 = bit then r <<< 1 else (r <<< 1) ^^^ 4129#16 := by
  have out : r.msb = r.getLsbD 15 := BitVec.msb_eq_getLsbD_last r
  simp only [crcBit, out, bne_iff_ne, ite_not]

/-- The check, a fold over bytes, is a fold over the bits of all bytes in order. -/
theorem crc_eq_foldl_bits (bytes : List Byte) : crc bytes =
    (bytes.flatMap fun b => [7, 6, 5, 4, 3, 2, 1, 0].map b.toNat.testBit).foldl crcBit 65535#16 := by
  simp only [List.foldl_flatMap, List.foldl_map]
  rfl

/-! ### Frames that no port routes -/

theorem headOfCode_eq_none {c : ℕ} (h : ¬(1 ≤ c ∧ c ≤ 4)) : headOfCode c = none := by
  have outside : c = 0 ∨ 5 ≤ c := by omega
  rcases outside with rfl | above
  · rfl
  · obtain ⟨k, rfl⟩ := Nat.exists_eq_add_of_le' above
    rfl

theorem routeHead_of_unrouted {f : List Byte} (notSample : ¬(frameKind f = 1 ∧ frameDest f = 0 ∧ frameLength f = 22))
    (notStatus : ¬(frameKind f = 2 ∧ frameDest f = 5)) (s : State) (n : Head) :
    s.routeHead n f = s.countBad (.head n) := by
  simp only [← and_assoc] at notSample
  simp only [State.routeHead, Bool.and_eq_true, decide_eq_true_eq, if_neg notSample, if_neg notStatus]

theorem routeUplink_of_unrouted {f : List Byte} (notRequest : ¬(frameKind f = 5 ∧ frameDest f = 0))
    (notCommand : ¬(frameKind f = 4 ∧ 1 ≤ frameDest f ∧ frameDest f ≤ 4)) (s : State) :
    s.routeUplink f = s.countBad .uplink := by
  simp only [State.routeUplink, Bool.and_eq_true, decide_eq_true_eq, if_neg notRequest]
  split
  case isTrue kind => rw [headOfCode_eq_none fun dest => notCommand ⟨kind, dest⟩]
  case isFalse => rfl

/-! ### A port that discards a frame -/

@[simp] theorem headPort_choose_bad (n : Head) (p : HeadPort) : (p.choose n).bad = p.bad := by
  unfold HeadPort.choose
  split
  case isTrue => rfl
  case isFalse =>
    split
    case h_1 => rfl
    case h_2 => split <;> rfl

/-- Coming UP leaves a head port's count as it was. -/
theorem headUp_bad (s : State) (n : Head) : (Safety.headUp s n).bad = (s.ports.get n).bad := headPort_choose_bad n _

/-- Coming UP leaves the uplink's count as it was. -/
theorem uplinkUp_bad (s : State) : (Safety.uplinkUp s).bad = s.uplink.bad := by
  have kept := State.kickUplink_uplink { s with uplink := { s.uplink with up := true } } s.uplink
  exact (congrArg Uplink.bad kept :)

/-- A good frame brings the uplink UP and lets an idle transmitter choose, and touches nothing else (R146, R149). -/
theorem linkUp_uplink (s : State) : s.linkUp .uplink = { s with uplink := Safety.uplinkUp s } := rfl

theorem receive_of_bad {f : List Byte} (bad : frameBad f = true) (s : State) (p : Port) : s.receive p f = s.countBad p :=
  if_pos bad

theorem receive_of_good {f : List Byte} (good : frameBad f = false) (s : State) (p : Port) :
    s.receive p f = (s.linkUp p).route p f := by
  rw [State.receive, good, if_neg Bool.false_ne_true]

/-- A head port counts a good frame on top of coming UP: the count is the one it had before (R146, R147). -/
theorem linkUp_countBad_head (s : State) (n : Head) : (s.linkUp (.head n)).countBad (.head n) = { s with
    ports := s.ports.set n { Safety.headUp s n with bad := min 65535 ((s.ports.get n).bad + 1) } } := by
  simp [linkUp_head, State.countBad, State.setPort, countUp, headUp_bad]

/-- The uplink counts a good frame on top of coming UP: the count is the one it had before (R146, R148). -/
theorem linkUp_countBad_uplink (s : State) : (s.linkUp .uplink).countBad .uplink = { s with
    uplink := { Safety.uplinkUp s with bad := min 65535 (s.uplink.bad + 1) } } := by
  simp [linkUp_uplink, State.countBad, countUp, uplinkUp_bad]

theorem exec_badFrame (p : Port) (f : List Byte) (s : State) : exec (.badFrame p f) s = .next (s.receive p f) := rfl

theorem exec_discardedGoodFrame (p : Port) (f : List Byte) (s : State) :
    exec (.discardedGoodFrame p f) s = .next (s.receive p f) := rfl

/-- Settles O28: a bad frame is counted before its port hears it, a good one that no port routes after. -/
theorem discardedFramesCounted : Obligations.DiscardedFramesCounted := by
  refine ⟨frameBad_iff, fun bytes => ?check, fun n f s bad => ?badHead, fun f s bad => ?badUplink,
    fun n f s good notSample notStatus => ?goodHead, fun f s good notRequest notCommand => ?goodUplink⟩
  case check =>
    rw [crc_eq_foldl_bits, funext₂ crcBit_eq]
  case badHead =>
    rw [exec_badFrame, receive_of_bad bad]
    rfl
  case badUplink =>
    rw [exec_badFrame, receive_of_bad bad]
    rfl
  case goodHead =>
    rw [exec_discardedGoodFrame, receive_of_good good, State.route, routeHead_of_unrouted notSample notStatus,
      linkUp_countBad_head]
  case goodUplink =>
    rw [exec_discardedGoodFrame, receive_of_good good, State.route, routeUplink_of_unrouted notRequest notCommand,
      linkUp_countBad_uplink]

end Sys2Proof.Proofs
end

section
/-! PROOFS. Invariants, part 1: what one command can do to the blocks of the state. `Change` lists the changes of one block, or
of blocks that change together, each with the fact that bounds it; every command but HARD_RESET is a run of such changes
(`exec_changes`, part 2), and an invariant is proved once for each change. -/

namespace Sys2Proof.Proofs
open Sys2Proof Sys2Proof.Machine

/-! ### The bounds of one block -/

/-- A head port's buffer and counts within their places (R143). -/
def portBounded (p : HeadPort) : Prop := p.forward.length ≤ 8 ∧ p.bad ≤ 65535 ∧ p.steerTag < 256

/-- The uplink's buffers and counts within their places (R143). -/
def uplinkBounded (u : Uplink) : Prop :=
  u.forward.length ≤ 8 ∧ u.requests.length ≤ 4 ∧ u.bad ≤ 65535 ∧ u.reportTag < 256

/-- The write-back queue within its places and the next capture number within its range (R99). -/
def captureBounded (c : Capture) : Prop := c.writeback.length ≤ 8 ∧ c.nextNumber.all (Safety.within 1 4294967295) = true

/-- A head's decimations within the range of R160, none below the configured one. -/
def decimationLegal (d : Decimation) : Prop :=
  (1 ≤ d.configured ∧ d.configured ≤ 64) ∧ (1 ≤ d.effective ∧ d.effective ≤ 64) ∧ d.configured ≤ d.effective

/-- The once-locked mark that R112 lists for each reference state. -/
def refLegal (t : TimeBase) : Prop :=
  match t.refState with
  | .locked | .holdover => t.onceLocked = true
  | .acquiring => True
  | .free => t.onceLocked = false

/-- A fault record of a head or of the part holds kinds of that subject only (R155, R181). -/
def faultsKept (k : Option Head) (f : FaultRecord) : Prop :=
  match k with
  | none => Safety.faultsLegal 16 19 f = true
  | some _ => Safety.faultsLegal 1 8 f = true

/-- The three keyed lists of the lookup unit share no key, no two walks a charge, and at most 24 pins are held. -/
structure Consistent (l : Lookup) : Prop where
  keys : (Safety.validKeys l ++ Safety.liveKeys l ++ l.rewalk).Nodup
  charges : (l.walks.map Walk.charge).Nodup
  pins : l.pinCount ≤ 24

/-! ### Steps of one block -/

/-- A new lookup unit that keeps the table configuration, the places and the consistency of the old one. -/
structure LookupStep (l l' : Lookup) : Prop where
  base : l'.base = l.base
  bucketCount : l'.bucketCount = l.bucketCount
  shift : l'.shift = l.shift
  bounded : Safety.lookupBounded l = true → Safety.lookupBounded l' = true
  consistent : Consistent l → Consistent l'

/-- A new spill ring at the base of the old one. -/
structure SpillStep (sp sp' : Spill) : Prop where
  base : sp'.base = sp.base
  bounded : Safety.spillBounded sp = true → Safety.spillBounded sp' = true

/-- A new time base at the same time of the same epoch. -/
structure TimeStep (t t' : TimeBase) : Prop where
  timebase : t'.timebase = t.timebase
  period : t'.period = t.period
  syncIndex : t'.syncIndex = t.syncIndex
  pendingSync : t'.pendingSync = t.pendingSync ∨ ∃ p, t'.pendingSync = some (paramSync p)
  reference : refLegal t → refLegal t'
  lockUp : t.lockUp ≤ 1048576 → t'.lockUp ≤ 1048576

/-- New time items of one head, in the same epoch. -/
structure HeadTimeStep (h h' : HeadTime) : Prop where
  phase : h'.phase = h.phase
  effPhase : h'.effPhase = h.effPhase
  window : Safety.within 1 4095 h.window = true → Safety.within 1 4095 h'.window = true
  bounded : Safety.headTimeBounded h = true → Safety.headTimeBounded h' = true

/-- A new controller with legal settings and owed refreshes where the old one has them. -/
structure MemStep (m m' : MemCtl) : Prop where
  timing : Safety.timingLegal m.timing = true → Safety.timingLegal m'.timing = true
  interval : Safety.within 1 64 m.refreshInterval = true → Safety.within 1 64 m'.refreshInterval = true
  owed : m.owed ≤ 8 → m'.owed ≤ 8

/-- New decimation items of one head. -/
structure DecimationStep (d d' : Decimation) : Prop where
  bounded : Safety.decimationBounded d = true → Safety.decimationBounded d' = true
  legal : decimationLegal d → decimationLegal d'

/-- A new report unit; of what it holds only the decimations have bounds here. -/
def ReportStep (r r' : Report) : Prop := ∀ n, DecimationStep (r.decimation.get n) (r'.decimation.get n)

/-- A change of one block of the state, or of blocks that change together. -/
inductive Change : State → State → Prop
  | freeCount (s : State) (k : Nat) : Change s { s with freeCount := k }
  | service (s : State) (v : ServiceState) : Change s { s with service := v }
  | restartMark (s : State) (b : Bool) : Change s { s with restartMark := b }
  | fault (s : State) (k : Option Head) (f : FaultRecord) (h : faultsKept k (s.faultRecord k) → faultsKept k f) :
      Change s (s.setFault k f)
  | measure (s : State) (m : PerHead Measure)
      (h : ∀ n, Safety.measureLegal (s.measure.get n) = true → Safety.measureLegal (m.get n) = true) :
      Change s { s with measure := m }
  | context (s : State) (c : PerHead Context)
      (h : ∀ n, Safety.contextBounded (s.ctx.get n) (s.settings.get n) = true →
        Safety.contextBounded (c.get n) (s.settings.get n) = true) :
      Change s { s with ctx := c }
  | settings (s : State) (n : Head) (p : List Byte) : Change s (s.setSettings n (paramSettings p))
  | lookup (s : State) (l : Lookup) (h : LookupStep s.lookup l) : Change s { s with lookup := l }
  | table (s : State) (base count shift : Nat) (h : s.mgmt.inHand.map InHand.work = some (.tableConfig base count shift)) :
      Change s { s with lookup := { s.lookup with
        configured := true, base := base, bucketCount := count, shift := shift
        records := List.replicate Config.cacheRecords none, rewalk := [], victim := 0 } }
  | waiting (s : State) (w : PerHead (Option WaitingSample)) : Change s { s with waiting := w }
  | behind (s : State) (b : PerHead (List Handed)) : Change s { s with behind := b }
  | settle (s : State) (q : PerHead SettleQueue)
      (h : ∀ n, (s.settle.get n).entries.length ≤ 12 → (q.get n).entries.length ≤ 12) : Change s { s with settle := q }
  | capture (s : State) (c : Capture) (h : captureBounded s.capture → captureBounded c) : Change s { s with capture := c }
  | spill (s : State) (sp : Spill) (h : SpillStep s.spill sp) : Change s { s with spill := sp }
  | ring (s : State) (base : Nat) (h : base % 32768 = 0) (h' : base < 67108864) : Change s (s.placeRing base)
  | time (s : State) (t : TimeBase) (h : TimeStep s.time t) : Change s { s with time := t }
  | headTime (s : State) (q : PerHead HeadTime) (h : ∀ n, HeadTimeStep (s.headTime.get n) (q.get n)) :
      Change s { s with headTime := q }
  | epoch (s : State) : Change s s.beginEpoch
  | mem (s : State) (m : MemCtl) (h : MemStep s.mem m) : Change s { s with mem := m }
  | cells (s : State) (a : Nat) (bs : List Byte) : Change s (s.writeBytes a bs)
  | report (s : State) (r : Report) (h : ReportStep s.report r) : Change s { s with report := r }
  | ports (s : State) (p : PerHead HeadPort) (h : ∀ n, portBounded (s.ports.get n) → portBounded (p.get n)) :
      Change s { s with ports := p }
  | uplink (s : State) (u : Uplink) (h : uplinkBounded s.uplink → uplinkBounded u) : Change s { s with uplink := u }
  | mgmt (s : State) (m : Management)
      (h : ∀ base count shift, m.inHand.map InHand.work = some (.tableConfig base count shift) →
        m.inHand = s.mgmt.inHand ∨ Safety.tableLegal base count shift = true) :
      Change s { s with mgmt := m }
  | restart (s : State) : Change s s.softReset

/-- A run of changes. -/
abbrev Changes : State → State → Prop := Relation.ReflTransGen Change

end Sys2Proof.Proofs
end

section
/-! PROOFS. Invariants, part 2: every shared operation is a run of changes; the operations in the model's order. -/

namespace Sys2Proof.Proofs
open Sys2Proof Sys2Proof.Machine

/-! ### One head's share -/

/-- What holds of every old value with itself, and of one head's old and new value, holds of every head's. -/
theorem forall_get_set {α : Type} {R : Head → α → α → Prop} (refl : ∀ m a, R m a a) {p : PerHead α} {n : Head} {v : α}
    (h : R n (p.get n) v) (m : Head) : R m (p.get m) ((p.set n v).get m) := by
  rw [PerHead.get_set]
  split
  case isTrue e => subst e; exact h
  case isFalse => exact refl _ _

/-- A fold of runs is a run. -/
theorem changes_foldl {α : Type} {f : State → α → State} (h : ∀ s a, Changes s (f s a)) (l : List α) (s : State) :
    Changes s (l.foldl f s) := by
  induction l generalizing s with
  | nil => exact .refl
  | cons a l ih => exact (h s a).trans (ih _)

theorem changes_setCtx {s : State} {n : Head} {c : Context}
    (h : Safety.contextBounded (s.ctx.get n) (s.settings.get n) = true → Safety.contextBounded c (s.settings.get n) = true) :
    Changes s (s.setCtx n c) :=
  .single (.context s _ (forall_get_set (R := fun m a b =>
    Safety.contextBounded a (s.settings.get m) = true → Safety.contextBounded b (s.settings.get m) = true)
    (fun _ _ => id) h))

theorem changes_setMeasure {s : State} {n : Head} {m : Measure}
    (h : Safety.measureLegal (s.measure.get n) = true → Safety.measureLegal m = true) : Changes s (s.setMeasure n m) :=
  .single (.measure s _ (forall_get_set (R := fun _ a b => Safety.measureLegal a = true → Safety.measureLegal b = true)
    (fun _ _ => id) h))

theorem HeadTimeStep.refl (h : HeadTime) : HeadTimeStep h h := ⟨rfl, rfl, id, id⟩

theorem changes_setHeadTime {s : State} {n : Head} {h : HeadTime} (step : HeadTimeStep (s.headTime.get n) h) :
    Changes s (s.setHeadTime n h) :=
  .single (.headTime s _ (forall_get_set (R := fun _ => HeadTimeStep) (fun _ => HeadTimeStep.refl) step))

theorem changes_setPort {s : State} {n : Head} {p : HeadPort} (h : portBounded (s.ports.get n) → portBounded p) :
    Changes s (s.setPort n p) :=
  .single (.ports s _ (forall_get_set (R := fun _ a b => portBounded a → portBounded b) (fun _ _ => id) h))

theorem changes_setWaiting (s : State) (n : Head) (w : Option WaitingSample) : Changes s (s.setWaiting n w) :=
  .single (.waiting s _)

theorem changes_setBehind (s : State) (n : Head) (l : List Handed) : Changes s (s.setBehind n l) := .single (.behind s _)

theorem changes_setSettle {s : State} {n : Head} {q : SettleQueue} (h : q.entries.length ≤ 12) : Changes s (s.setSettle n q) :=
  .single (.settle s _ (forall_get_set (R := fun _ (a b : SettleQueue) => a.entries.length ≤ 12 → b.entries.length ≤ 12)
    (fun _ _ => id) fun _ => h))

theorem DecimationStep.refl (d : Decimation) : DecimationStep d d := ⟨id, id⟩

theorem changes_setDecimation {s : State} {n : Head} {d : Decimation} (h : DecimationStep (s.report.decimation.get n) d) :
    Changes s (s.setDecimation n d) :=
  .single (.report s _ (forall_get_set (R := fun _ => DecimationStep) (fun _ => DecimationStep.refl) h))

theorem changes_freelyOrdered {α : Type} (l : List α) (s : State) : Changes s (freelyOrdered l s).2 := by
  unfold freelyOrdered
  split
  · exact .refl
  · exact .single (.freeCount s _)

/-! ### Ports -/

theorem choose_portBounded (n : Head) {p : HeadPort} (h : portBounded p) : portBounded (p.choose n) := by
  obtain ⟨forward, bad, tag⟩ := h
  unfold HeadPort.choose
  split
  · exact ⟨forward, bad, tag⟩
  · split
    · exact ⟨forward, bad, tag⟩
    · split
      case h_1 f rest e => rw [e] at forward; exact ⟨Nat.le_of_succ_le forward, bad, tag⟩
      case h_2 => exact ⟨forward, bad, tag⟩

theorem placeSteer_portBounded (payload : List Byte) {p : HeadPort} (h : portBounded p) : portBounded (p.placeSteer payload) :=
  ⟨h.1, h.2.1, Nat.mod_lt _ (by decide)⟩

theorem changes_kickHead (s : State) (n : Head) : Changes s (s.kickHead n) := changes_setPort (choose_portBounded n)

theorem choose_uplinkBounded (q : List ReportFrame) {u : Uplink} (h : uplinkBounded u) : uplinkBounded (u.choose q) := by
  have report (f : ReportFrame) : uplinkBounded (u.sendReport f) := by
    refine ⟨h.1, h.2.1, h.2.2.1, ?_⟩
    simp only [Uplink.sendReport, tagAfter]
    split
    · exact h.2.2.2
    · exact Nat.mod_lt _ (by decide)
  have forward (f : List Byte) : uplinkBounded (u.sendForward f) := h
  unfold Uplink.choose
  split
  · exact h
  · split
    · split
      · exact forward _
      · exact report _
    · exact report _
    · exact forward _
    · exact h

theorem changes_kickUplink (s : State) : Changes s s.kickUplink := .single (.uplink s _ (choose_uplinkBounded _))

theorem countUp_le (c : ℕ) : countUp c ≤ 65535 := Nat.min_le_left _ _

theorem changes_countBad (s : State) (p : Port) : Changes s (s.countBad p) := by
  cases p with
  | head n => exact changes_setPort fun h => ⟨h.1, countUp_le _, h.2.2⟩
  | uplink => exact .single (.uplink s _ fun h => ⟨h.1, h.2.1, countUp_le _, h.2.2.2⟩)

theorem changes_linkUp (s : State) (p : Port) : Changes s (s.linkUp p) := by
  cases p with
  | head n =>
    have up : Changes s (s.setPort n { s.ports.get n with up := true }) := changes_setPort id
    exact up.trans (changes_kickHead _ n)
  | uplink => exact (Relation.ReflTransGen.single (.uplink s _ id)).trans (changes_kickUplink _)

theorem changes_forwardUp (s : State) (n : Head) (f : List Byte) : Changes s (s.forwardUp n f) := by
  unfold State.forwardUp
  split
  case isTrue room =>
    refine (Relation.ReflTransGen.single (.uplink s _ fun h => ⟨?_, h.2⟩)).trans (changes_kickUplink _)
    simpa using room
  case isFalse => exact changes_countBad s _

theorem changes_bufferRequest (s : State) (f : List Byte) : Changes s (s.bufferRequest f) := by
  unfold State.bufferRequest
  split
  case isTrue room =>
    refine Relation.ReflTransGen.single (.uplink s _ fun h => ⟨h.1, ?_, h.2.2⟩)
    simpa using room
  case isFalse => exact changes_countBad s _

/-! ### Events, occupancy, answers and Position reports -/

theorem setSlot_step (r : Report) (k : Option Head) (h : Option HeldEvent) : ReportStep r (r.setSlot k h) := by
  cases k <;> exact fun _ => DecimationStep.refl _

theorem changes_placeEvent (s : State) (k : Option Head) (e : Event) : Changes s (s.placeEvent k e) :=
  .single (.report s _ (setSlot_step _ _ _))

theorem changes_placeBoth (s : State) (k : Option Head) (e e' : Event) : Changes s (s.placeBoth k e e') :=
  (Relation.ReflTransGen.single (.report s _ (setSlot_step _ _ _))).tail (.freeCount _ _)

theorem decimationBounded_iff (d : Decimation) :
    Safety.decimationBounded d = true ↔ d.configured ≤ 64 ∧ d.effective ≤ 64 ∧ d.count ≤ 63 := by
  simp [Safety.decimationBounded, and_assoc]

theorem double_step (d : Decimation) : DecimationStep d d.double := by
  constructor
  · simp only [decimationBounded_iff, Decimation.double]; omega
  · simp only [decimationLegal, Decimation.double]; omega

theorem halve_step (d : Decimation) : DecimationStep d d.halve := by
  constructor
  · simp only [decimationBounded_iff, Decimation.halve]; omega
  · simp only [decimationLegal, Decimation.halve]; omega

theorem changes_redecimate (s : State) {f : Decimation → Decimation} (h : ∀ d, DecimationStep d (f d)) (b : Bool) :
    Changes s (s.redecimate f b) := by
  simp only [State.redecimate]
  split
  · exact .refl
  · refine (Relation.ReflTransGen.single (.report s _ fun n => ?_)).trans (changes_placeEvent _ _ _)
    simpa using h _

theorem changes_afterRise (s : State) : Changes s s.afterRise := by
  unfold State.afterRise
  split
  · exact changes_redecimate s double_step _
  · exact .refl

theorem changes_afterFall (s : State) : Changes s s.afterFall := by
  unfold State.afterFall
  split
  · exact changes_redecimate s halve_step _
  · exact .refl

/-- A report unit with the decimations of the old one. -/
theorem changes_report (s : State) {r : Report} (h : r.decimation = s.report.decimation) :
    Changes s { s with report := r } := .single (.report s r fun _ => by rw [h]; exact .refl _)

theorem changes_enqueue (s : State) (f : ReportFrame) : Changes s (s.enqueue f) :=
  have joined : Changes s { s with report := { s.report with queue := s.report.queue ++ [f] } } := changes_report s rfl
  (joined.trans (changes_afterRise _)).trans (changes_kickUplink _)

theorem changes_enqueueReserved (s : State) (f : ReportFrame) : Changes s (s.enqueueReserved f) :=
  have joined : Changes s { s with report := { s.report with
      queue := s.report.queue ++ [f], reserved := s.report.reserved - 1 } } := changes_report s rfl
  joined.trans (changes_kickUplink _)

theorem changes_reserve (s : State) : Changes s s.reserve :=
  have reserved : Changes s { s with report := { s.report with reserved := s.report.reserved + 1 } } := changes_report s rfl
  reserved.trans (changes_afterRise _)

theorem changes_release (s : State) : Changes s s.release :=
  have released : Changes s { s with report := { s.report with reserved := s.report.reserved - 1 } } := changes_report s rfl
  released.trans (changes_afterFall _)

/-- The request in hand is given up, or an answer held: no table configuration comes into hand. -/
theorem changes_mgmt_inHand (s : State) (m : Management) (h : m.inHand = none ∨ m.inHand = s.mgmt.inHand) :
    Changes s { s with mgmt := m } := by
  refine .single (.mgmt s m fun base count shift e => ?_)
  rcases h with h | h
  · rw [h] at e; cases e
  · exact .inl h

theorem changes_giveAnswer (s : State) (tag : Byte) (k : Nat) (st : Status) (d : List Byte) :
    Changes s (s.giveAnswer tag k st d) := by
  have none_in_hand := changes_mgmt_inHand s { s.mgmt with inHand := none } (.inl rfl)
  simp only [State.giveAnswer]
  split
  · exact none_in_hand.trans (changes_enqueue _ _)
  · exact none_in_hand.trans (changes_mgmt_inHand _ _ (.inr rfl))

theorem changes_answerInHand (s : State) (st : Status) (d : List Byte) : Changes s (s.answerInHand st d) := by
  unfold State.answerInHand
  split
  · exact changes_giveAnswer s _ _ _ _
  · exact .refl

theorem changes_reportSample (s : State) (n : Head) (h : Handed) : Changes s (s.reportSample n h) := by
  have count_le (c : ℕ) (le : c = 0 ∨ c < (s.report.decimation.get n).effective) :
      DecimationStep (s.report.decimation.get n) { s.report.decimation.get n with count := c } := by
    refine ⟨?_, id⟩
    simp only [decimationBounded_iff]
    omega
  simp only [State.reportSample]
  split
  case isTrue =>
    have zero := changes_setDecimation (count_le 0 (.inl rfl))
    split
    · exact zero.trans (changes_enqueue _ _)
    · exact zero
  case isFalse less => exact changes_setDecimation (count_le _ (.inr (by omega)))

/-! ### Faults and changes of context state -/

/-- A code of a subject: 1 to 8 of a head, 16 to 19 of the part (R155). -/
def kindOf (k : Option Head) (kind : FaultKind) : Prop :=
  match k with
  | none => 16 ≤ kind.code ∧ kind.code ≤ 19
  | some _ => 1 ≤ kind.code ∧ kind.code ≤ 8

theorem faultsLegal_iff (lo hi : ℕ) (f : FaultRecord) : Safety.faultsLegal lo hi f = true ↔
    (∀ x ∈ f.first, lo ≤ x.kind.code ∧ x.kind.code ≤ hi) ∧ (∀ k ∈ f.further, lo ≤ k.code ∧ k.code ≤ hi) ∧
    (f.further.map FaultKind.code).Pairwise (· < ·) ∧ f.further.length ≤ hi + 1 - lo ∧ (f.first = none → f.further = []) := by
  have held : (f.first.isSome || f.further.isEmpty) = true ↔ (f.first = none → f.further = []) := by
    cases f.first <;> simp
  simp only [Safety.faultsLegal, Bool.and_eq_true, held, decide_eq_true_eq, Safety.within, Option.all_eq_true,
    List.all_eq_true, and_assoc, Option.mem_def]

theorem mem_insertKind {k x : FaultKind} {l : List FaultKind} (h : x ∈ insertKind k l) : x = k ∨ x ∈ l := by
  induction l with
  | nil => simpa [insertKind] using h
  | cons a l ih =>
    simp only [insertKind] at h
    split_ifs at h with before same
    · simpa using h
    · exact .inr h
    · rcases List.mem_cons.1 h with rfl | h
      · simp
      · exact (ih h).imp_right (List.mem_cons_of_mem _)

theorem FaultKind.code_injective : Function.Injective FaultKind.code := by
  intro a b h
  cases a <;> cases b <;> simp [FaultKind.code] at h ⊢

/-- The further kinds stay in increasing order of code, each once (R181). -/
theorem insertKind_sorted (k : FaultKind) {l : List FaultKind} (h : (l.map FaultKind.code).Pairwise (· < ·)) :
    ((insertKind k l).map FaultKind.code).Pairwise (· < ·) := by
  induction l with
  | nil => simp [insertKind]
  | cons a l ih =>
    rw [List.map_cons, List.pairwise_cons] at h
    simp only [insertKind]
    split_ifs with before same
    · simp only [List.map_cons, List.pairwise_cons, List.mem_cons, forall_eq_or_imp]
      exact ⟨⟨before, fun c hc => before.trans (h.1 c hc)⟩, h.1, h.2⟩
    · simpa using h
    · rw [List.map_cons, List.pairwise_cons]
      refine ⟨fun c hc => ?_, ih h.2⟩
      obtain ⟨x, hx, rfl⟩ := List.mem_map.1 hc
      rcases mem_insertKind hx with rfl | hx
      · exact lt_of_le_of_ne (Nat.le_of_not_lt before) fun e => same (FaultKind.code_injective e).symm
      · exact h.1 _ (List.mem_map_of_mem hx)

/-- A strictly rising list of codes from lo to hi holds each of them at most once. -/
theorem length_le_of_sorted {lo hi : ℕ} {l : List ℕ} (h : l.Pairwise (· < ·)) (range : ∀ c ∈ l, lo ≤ c ∧ c ≤ hi) :
    l.length ≤ hi + 1 - lo := by
  have nodup : l.Nodup := h.imp fun lt => Nat.ne_of_lt lt
  have subset : l.toFinset ⊆ Finset.Icc lo hi := fun c hc => Finset.mem_Icc.2 (range c (List.mem_toFinset.1 hc))
  simpa [List.toFinset_card_of_nodup nodup] using Finset.card_le_card subset

theorem write_faultsLegal {lo hi : ℕ} {f : FaultRecord} {kind : FaultKind} (time detail : ℕ)
    (range : lo ≤ kind.code ∧ kind.code ≤ hi) (h : Safety.faultsLegal lo hi f = true) :
    Safety.faultsLegal lo hi (f.write kind time detail) = true := by
  rw [faultsLegal_iff] at h ⊢
  obtain ⟨first, further, sorted, length, held⟩ := h
  by_cases empty : f.first.isNone
  · rw [write_first empty]
    exact ⟨by simpa using range, further, sorted, length, nofun⟩
  · rw [write_further empty]
    have inRange : ∀ k ∈ insertKind kind f.further, lo ≤ k.code ∧ k.code ≤ hi := fun k hk => by
      rcases mem_insertKind hk with rfl | hk
      · exact range
      · exact further k hk
    refine ⟨first, inRange, insertKind_sorted kind sorted, ?_, fun none => absurd (by simp [show f.first = _ from none]) empty⟩
    simpa using length_le_of_sorted (insertKind_sorted kind sorted) (by simpa using inRange)

theorem write_faultsKept {k : Option Head} {f : FaultRecord} {kind : FaultKind} (time detail : ℕ) (range : kindOf k kind)
    (h : faultsKept k f) : faultsKept k (f.write kind time detail) := by
  cases k <;> exact write_faultsLegal time detail range h

theorem changes_raise (s : State) {k : Option Head} {kind : FaultKind} (detail : ℕ) (range : kindOf k kind) :
    Changes s (s.raise k kind detail) := by
  have recorded := Relation.ReflTransGen.single (Change.fault s k _ (write_faultsKept s.time.timebase detail range))
  simp only [State.raise]
  split
  · exact recorded.trans (changes_placeEvent _ _ _)
  · exact recorded

theorem changes_raiseWith (s : State) {k : Option Head} {kind : FaultKind} (detail : ℕ) (e : Event) (range : kindOf k kind) :
    Changes s (s.raiseWith k kind detail e) := by
  have recorded := Relation.ReflTransGen.single (Change.fault s k _ (write_faultsKept s.time.timebase detail range))
  simp only [State.raiseWith]
  split
  · exact recorded.trans (changes_placeBoth _ _ _ _)
  · exact recorded.trans (changes_placeEvent _ _ _)

/-- A context's new state is not among its bounds. -/
theorem contextBounded_iff (c : Context) (t : TrackSettings) : Safety.contextBounded c t = true ↔
    c.timer ≤ 512 ∧ c.silence ≤ 255 ∧ c.attempts ≤ 3 ∧ (∀ q ∈ c.search, q.dwell ≤ 16) ∧ t.coastLimit ≤ 255 ∧
      t.searchDwell ≤ 16 ∧ t.silenceLimit ≤ 255 := by
  simp [Safety.contextBounded, and_assoc, Option.all_eq_true]

/-- A context takes the place of head n's within its bounds. -/
def ContextFits (s : State) (n : Head) (c : Context) : Prop :=
  Safety.contextBounded (s.ctx.get n) (s.settings.get n) = true → Safety.contextBounded c (s.settings.get n) = true

theorem changes_changeState {s : State} {n : Head} {c : Context} (h : ContextFits s n c) (new : CtxState) (cause : StateCause) :
    Changes s (s.changeState n c new cause) :=
  have ctx : Changes s (s.setCtx n { c with state := new }) := changes_setCtx h
  ctx.trans (changes_placeEvent _ _ _)

theorem changes_changeStateWithFault {s : State} {n : Head} {c : Context} (h : ContextFits s n c) (new : CtxState)
    (cause : StateCause) {kind : FaultKind} (detail : ℕ) (range : kindOf (some n) kind) :
    Changes s (s.changeStateWithFault n c new cause kind detail) :=
  have ctx : Changes s (s.setCtx n { c with state := new }) := changes_setCtx h
  ctx.trans (changes_raiseWith _ _ _ range)

/-! ### Steer frames, searches, transitions and expiries -/

theorem changes_steer (s : State) (n : Head) (mode : SteerMode) (reason : SteerReason) (az el : Int) :
    Changes s (s.steer n mode reason az el) := by
  have drawn : Changes s (s.steerDrawn n) := by
    unfold State.steerDrawn
    split
    · exact .refl
    · exact .single (.freeCount s _)
  simp only [State.steer]
  split
  · refine (drawn.trans (changes_setPort ?_)).trans (changes_kickHead _ n)
    rw [(State.steerDrawn_frame s n).2.2.2.2.2.2.2.2.2.2.2.2.2.2.2.2.2.2.2.2.1]
    exact placeSteer_portBounded _
  · exact .refl

theorem changes_startSearch {s : State} {n : Head} {c : Context} (h : ContextFits s n c) (az el : Int) (centreFirst : Bool)
    (cause : StateCause) : Changes s (s.startSearch n c az el centreFirst cause) := by
  refine (changes_changeState (fun b => ?_) _ _).trans (changes_steer _ _ _ _ _ _)
  have := h b
  simp only [contextBounded_iff, startRecord, Option.mem_def, Option.some.injEq, forall_eq'] at this ⊢
  omega

theorem changes_parkHead (s : State) (n : Head) : Changes s (s.parkHead n) := by
  simp only [State.parkHead]
  split
  · exact .refl
  · refine (changes_changeState (fun b => ?_) _ _).trans (changes_steer _ _ _ _ _ _)
    simp_all [contextBounded_iff, Context.park]

theorem changes_wakeHead (s : State) (n : Head) : Changes s (s.wakeHead n) := by
  simp only [State.wakeHead]
  split
  · exact changes_changeState id _ _
  · exact .refl

theorem settleLength_le (k : ℕ) : settleLength k ≤ 512 := by unfold settleLength; split <;> decide

theorem enterSettling_fits {s : State} {n : Head} {c : Context} (h : ContextFits s n c) (t : TrackSettings) :
    ContextFits s n (c.enterSettling t) := fun b => by
  have := h b
  have := settleLength_le t.settleSelect
  simp_all [contextBounded_iff, Context.enterSettling]

theorem pushLocked_fits {s : State} {n : Head} {c : Context} (h : ContextFits s n c) (l : LockedSample) (r : ℕ) :
    ContextFits s n (c.pushLocked l r) := fun b => by
  have := h b
  unfold Context.pushLocked
  split <;> simpa [contextBounded_iff] using this

theorem changes_transition {s : State} {n : Head} {c : Context} (h : ContextFits s n c) (m : MeasuredSample) (ret : Bool) :
    Changes s (s.transition n c m ret) := by
  have found := (changes_changeState (enterSettling_fits h (s.settings.get n)) .settling .returnFound).trans
    (changes_steer _ n .follow .none m.az m.el)
  have kept := changes_setCtx h
  simp only [State.transition]
  split
  case h_1 =>
    have pushed := pushLocked_fits h ⟨m.az, m.el, m.index⟩ (s.settings.get n).maxRate
    split
    · split
      · exact (changes_changeStateWithFault (enterSettling_fits pushed _) _ _ _ (by simp [kindOf, FaultKind.code])).trans
          (changes_steer _ _ _ _ _ _)
      · exact changes_setCtx pushed
    · exact changes_setCtx pushed
  case h_2 =>
    refine changes_changeState (fun b => ?_) _ _
    have := h b
    simp only [contextBounded_iff] at this
    split <;> simp only [contextBounded_iff] <;> exact ⟨by omega, this.2⟩
  case h_7 =>
    refine changes_startSearch (fun b => ?_) _ _ _ _
    have := h b
    simp_all [contextBounded_iff]
  case h_8 => exact changes_changeState h _ _
  case h_3 | h_4 | h_5 | h_6 => exact found
  all_goals exact kept

end Sys2Proof.Proofs
end

section
/-! PROOFS. Invariants, part 3: expiries, the time base, table memory, the controller and the lookup unit's operations are runs
of changes. -/

namespace Sys2Proof.Proofs
open Sys2Proof Sys2Proof.Machine

/-! ### Expiries -/

/-- The silence count is below its limit where the expiry does not trip (R34). -/
theorem updateSilence_fits {s : State} {n : Head} (h : (s.ctx.get n).silenceTrips (s.settings.get n) = false) :
    ContextFits s n (s.ctx.get n).updateSilence := fun b => by
  rw [contextBounded_iff] at b ⊢
  unfold Context.updateSilence
  unfold Context.silenceTrips at h
  generalize s.ctx.get n = c at *
  cases hc : c.state <;> simp only [hc] at h ⊢ <;> simp_all <;> omega

theorem enterSilence_fits (s : State) (n : Head) : ContextFits s n (s.ctx.get n).updateSilence.enterSilence := fun b => by
  rw [contextBounded_iff] at b ⊢
  unfold Context.updateSilence
  split <;> simp_all [Context.enterSilence]

theorem next_dwell {q q' : SearchRecord} (e : q.next = some q') : q'.dwell = q.dwell := by
  unfold SearchRecord.next at e
  split_ifs at e <;> simp_all [← Option.some.inj e]

section
variable {s : State} {n : Head} {c : Context} (h : ContextFits s n c) (index : ℕ)
include h

theorem timer_fits {t : ℕ} (le : t ≤ 512 ∨ t ≤ c.timer) (p : Option (Int × Int)) :
    ContextFits s n { c with timer := t, predicted := p } := fun b => by
  have := h b
  simp only [contextBounded_iff] at this ⊢
  exact ⟨by omega, this.2⟩

theorem changes_coastExpiry : Changes s (s.coastExpiry n c index) := by
  unfold State.coastExpiry
  split
  · exact changes_setCtx (timer_fits h (.inr (Nat.sub_le _ _)) _)
  · split
    · exact changes_startSearch (timer_fits h (.inl (Nat.zero_le _)) _) _ _ _ _
    · exact (changes_setCtx (timer_fits h (.inr (Nat.sub_le _ _)) _)).trans (changes_steer _ _ _ _ _ _)

theorem changes_searchExpiry : Changes s (s.searchExpiry n c index) := by
  have counted := changes_setCtx (timer_fits h (.inr (Nat.sub_le c.timer 1)) c.predicted)
  unfold State.searchExpiry
  split
  · exact counted
  case h_2 q search =>
    split
    · split
      case h_1 q' next =>
        refine (changes_setCtx fun b => ?_).trans (changes_steer _ _ _ _ _ _)
        have := h b
        have := next_dwell next
        simp_all [contextBounded_iff]
        omega
      case h_2 =>
        refine changes_changeStateWithFault (fun b => ?_) _ _ _ (by simp [kindOf, FaultKind.code])
        have := h b
        simp_all [contextBounded_iff]
    · exact counted.trans (changes_steer _ _ _ _ _ _)

theorem changes_settleExpiryWork : Changes s (s.settleExpiryWork n c index) := by
  unfold State.settleExpiryWork
  split
  · split
    case h_1 l _ =>
      have anchored : Changes s (s.setMeasure n { s.measure.get n with anchor := anchorFrom (s.measure.get n) l }) :=
        changes_setMeasure id
      refine anchored.trans (changes_changeState (fun b => ?_) _ _)
      have := h b
      simp_all [contextBounded_iff, Context.enterLocked]
    · split
      · refine changes_setCtx fun b => ?_
        have := h b
        have := settleLength_le (s.settings.get n).settleSelect
        simp_all [contextBounded_iff]
      · refine changes_changeStateWithFault (fun b => ?_) _ _ _ (by simp [kindOf, FaultKind.code])
        have := h b
        simp_all [contextBounded_iff]
  · exact changes_setCtx (timer_fits h (.inr (Nat.sub_le c.timer 1)) c.predicted)

end

theorem changes_trackExpiry (s : State) (n : Head) (index : ℕ) : Changes s (s.trackExpiry n index) := by
  simp only [State.trackExpiry]
  split
  · exact changes_changeStateWithFault (enterSilence_fits s n) _ _ _ (by simp [kindOf, FaultKind.code])
  case isFalse quiet =>
    have fits := updateSilence_fits (Bool.eq_false_iff.2 quiet)
    split
    · exact changes_coastExpiry fits index
    · exact changes_searchExpiry fits index
    · exact changes_settleExpiryWork fits index
    all_goals exact changes_setCtx fits

theorem headTimeBounded_iff (h : HeadTime) : Safety.headTimeBounded h = true ↔
    h.history.length ≤ 4 ∧ h.window ≤ 4095 ∧ ∀ r ∈ h.trigger, r.periodsLeft ≤ 4095 := by
  simp [Safety.headTimeBounded, and_assoc, Option.all_eq_true]

theorem pushHistory_length_le (h : List HistoryEntry) (e : HistoryEntry) : (pushHistory h e).length ≤ 4 := by
  simp [pushHistory, Config.historyPlaces]; omega

theorem expire_step (h : HeadTime) (e : DueExpiry) (period : ℕ) : HeadTimeStep h (h.expire e period) := by
  refine ⟨rfl, rfl, id, fun b => ?_⟩
  rw [headTimeBounded_iff] at b ⊢
  refine ⟨pushHistory_length_le _ _, b.2.1, fun r hr => ?_⟩
  simp only [HeadTime.expire, countTrigger] at hr
  split at hr
  case h_1 old e =>
    have := b.2.2 old (by simp [e])
    split at hr
    · cases hr
    · simp only [Option.mem_def, Option.some.injEq] at hr
      subst hr
      exact (Nat.sub_le _ _).trans this
  case h_2 => cases hr

theorem changes_expireTrigger (s : State) (n : Head) (h : HeadTime) : Changes s (s.expireTrigger n h) := by
  unfold State.expireTrigger
  split
  · split
    · exact changes_placeEvent _ _ _
    · exact .refl
  · exact .refl

theorem changes_takeExpiry (s : State) (n : Head) (e : DueExpiry) : Changes s (s.takeExpiry n e) :=
  ((changes_setHeadTime (expire_step _ e s.time.period)).trans (changes_expireTrigger _ n (s.headTime.get n))).trans
    (changes_trackExpiry _ n e.index)

theorem changes_expireIf (s : State) (n : Head) (p : Bool) : Changes s (s.expireIf n p) := by
  unfold State.expireIf
  split
  · split
    · exact changes_takeExpiry s n _
    · exact .refl
  · exact .refl

theorem changes_idleTrigger (s : State) (n : Head) : Changes s (s.idleTrigger n) := by
  refine changes_setHeadTime ⟨rfl, rfl, id, fun b => ?_⟩
  rw [headTimeBounded_iff] at b ⊢
  exact ⟨b.1, b.2.1, nofun⟩

theorem changes_takeEdge (s : State) (n : Head) : Changes s (s.takeEdge n) := by
  simp only [State.takeEdge]
  split
  · refine changes_setHeadTime ⟨rfl, rfl, id, fun b => ?_⟩
    rw [headTimeBounded_iff] at b ⊢
    exact ⟨b.1, b.2.1, fun r hr => by cases hr; exact b.2.1⟩
  · exact changes_raise s _ (by simp [kindOf, FaultKind.code])

/-! ### The reference -/

theorem changes_setTime {s : State} {t : TimeBase} (h : TimeStep s.time t) : Changes s (s.setTime t) := by
  have time := Relation.ReflTransGen.single (Change.time s t h)
  simp only [State.setTime]
  split
  · exact time
  · exact time.trans (changes_placeEvent _ _ _)

theorem referenceGood_step (t : TimeBase) : TimeStep t t.referenceGood := by
  unfold TimeBase.referenceGood
  constructor <;> split <;> simp_all [refLegal]

theorem referenceLost_step (t : TimeBase) : TimeStep t t.referenceLost := by
  unfold TimeBase.referenceLost
  constructor <;> split <;> simp_all [refLegal]
  cases t.onceLocked <;> simp

theorem lockUpDone_step (t : TimeBase) : TimeStep t t.lockUpDone :=
  ⟨rfl, rfl, rfl, .inl rfl, fun _ => rfl, fun _ => Nat.zero_le _⟩

theorem changes_loseReference (s : State) : Changes s s.loseReference := by
  simp only [State.loseReference]
  split
  · exact (Relation.ReflTransGen.single (.time s _ (referenceLost_step _))).trans
      (changes_raiseWith _ _ _ (by simp [kindOf, FaultKind.code]))
  · exact changes_setTime (referenceLost_step _)

theorem changes_referenceEdge (s : State) : Changes s s.referenceEdge := by
  have edge : Changes s { s with time := { s.time with lastEdge := some s.time.timebase } } :=
    .single (.time s _ ⟨rfl, rfl, rfl, .inl rfl, id, id⟩)
  simp only [State.referenceEdge]
  split
  · exact edge
  · split
    · split
      · exact edge
      · exact edge.trans (changes_setTime (referenceGood_step _))
    · split
      · exact edge.trans (changes_loseReference _)
      · exact edge

/-! ### Table memory and its controller -/

theorem changes_writeSlot (s : State) (a : ℕ) (e c : Bool) (hd k : ℕ) : Changes s (s.writeSlot a e c hd k) :=
  (Relation.ReflTransGen.single (.cells s _ _)).tail (.cells _ _ _)

theorem changes_mem (s : State) {m : MemCtl} (timing : m.timing = s.mem.timing)
    (interval : m.refreshInterval = s.mem.refreshInterval) (owed : m.owed ≤ s.mem.owed ∨ m.owed ≤ 8) :
    Changes s { s with mem := m } :=
  .single (.mem s m ⟨by rw [timing]; exact id, by rw [interval]; exact id, by omega⟩)

theorem changes_endAccess (s : State) : Changes s s.endAccess := changes_mem s rfl rfl (.inl le_rfl)

theorem changes_requestBucket (s : State) (c : Charge) (b : ℕ) : Changes s (s.requestBucket c b) :=
  changes_mem s rfl rfl (.inl le_rfl)

theorem changes_requestSpill (s : State) (r : SpillRequest) : Changes s (s.requestSpill r) :=
  changes_mem s rfl rfl (.inl le_rfl)

theorem changes_requestMgmt (s : State) (r : MgmtRequest) : Changes s (s.requestMgmt r) :=
  changes_mem s rfl rfl (.inl le_rfl)

/-- Write-back entries come and go within their places. -/
theorem changes_writeback (s : State) {q : List WbEntry} (h : q.length ≤ s.capture.writeback.length) :
    Changes s { s with capture := { s.capture with writeback := q } } :=
  .single (.capture s _ fun b => ⟨h.trans b.1, b.2⟩)

theorem changes_removeRequest (s : State) (a : Access) : Changes s (s.removeRequest a) := by
  cases a with
  | walk r => exact changes_mem s rfl rfl (.inl le_rfl)
  | writeback b sl => exact changes_writeback s (by simp [setWriting])
  | spill r => exact changes_mem s rfl rfl (.inl le_rfl)
  | mgmt r => exact changes_mem s rfl rfl (.inl le_rfl)
  | refresh => exact changes_mem s rfl rfl (.inl (Nat.sub_le _ _))

theorem changes_grant (s : State) (a : Access) : Changes s (s.grant a) :=
  (changes_removeRequest s a).trans (changes_mem _ rfl rfl (.inl le_rfl))

/-! ### Lookup units that follow one another -/

theorem LookupStep.refl (l : Lookup) : LookupStep l l := ⟨rfl, rfl, rfl, id, id⟩

theorem LookupStep.trans {l l' l'' : Lookup} (h : LookupStep l l') (h' : LookupStep l' l'') : LookupStep l l'' :=
  ⟨h'.base.trans h.base, h'.bucketCount.trans h.bucketCount, h'.shift.trans h.shift, h'.bounded ∘ h.bounded,
    h'.consistent ∘ h.consistent⟩

theorem lookupBounded_iff (l : Lookup) : Safety.lookupBounded l = true ↔ l.records.length = 32 ∧
    (∀ r, some r ∈ l.records → Safety.recordBounded r = true) ∧ (∀ w ∈ l.walks, Safety.walkBounded w = true) ∧
    l.victim < 32 := by
  have records : l.records.all (fun r => r.all Safety.recordBounded) = true ↔
      ∀ r, some r ∈ l.records → Safety.recordBounded r = true := by
    simp only [List.all_eq_true, Option.all_eq_true]
    exact ⟨fun h r hr => h _ hr r rfl, fun h o ho r hr => h r (by rw [← hr]; exact ho)⟩
  simp only [Safety.lookupBounded, Bool.and_eq_true, records, beq_iff_eq, List.all_eq_true, decide_eq_true_eq, and_assoc]

/-- Fewer keys, charges and pins stay consistent. -/
theorem Consistent.of_fewer {l l' : Lookup} (h : Consistent l)
    (keys : (Safety.validKeys l' ++ Safety.liveKeys l' ++ l'.rewalk).Subperm
      (Safety.validKeys l ++ Safety.liveKeys l ++ l.rewalk))
    (charges : (l'.walks.map Walk.charge).Sublist (l.walks.map Walk.charge)) (pins : l'.pinCount ≤ l.pinCount) :
    Consistent l' := by
  obtain ⟨sub, perm, sublist⟩ := keys
  exact ⟨perm.nodup_iff.1 (h.keys.sublist sublist), h.charges.sublist charges, pins.trans h.pins⟩

theorem liveKeys_append (l : Lookup) (w : Walk) : Safety.liveKeys { l with walks := l.walks ++ [w] } =
    Safety.liveKeys l ++ if w.discarded then [] else [w.key] := by
  cases h : w.discarded <;> simp [Safety.liveKeys, h]

/-- A walk's changed fields that leave its key and charge, and do not bring it back to life or pin it. -/
structure WalkKept (w w' : Walk) : Prop where
  key : w'.key = w.key
  charge : w'.charge = w.charge
  discarded : w.discarded = true → w'.discarded = true
  pin : w'.pin = true → w.pin = true

/-- The same, with the walk's lists within their places. -/
structure WalkStep (w w' : Walk) : Prop extends WalkKept w w' where
  bounded : Safety.walkBounded w = true → Safety.walkBounded w' = true

theorem WalkStep.refl (w : Walk) : WalkStep w w := ⟨⟨rfl, rfl, id, id⟩, id⟩

theorem liveKeys_map_sublist {g : Walk → Walk} {ws : List Walk} (h : ∀ w ∈ ws, WalkKept w (g w)) :
    (((ws.map g).filter fun w => !w.discarded).map Walk.key).Sublist ((ws.filter fun w => !w.discarded).map Walk.key) := by
  induction ws with
  | nil => exact .slnil
  | cons w ws ih =>
    have step := h w (List.mem_cons_self ..)
    have rest := ih fun w hw => h w (List.mem_cons_of_mem _ hw)
    cases hg : (g w).discarded with
    | true =>
      cases hw : w.discarded
      · simpa [hg, hw] using rest.cons w.key
      · simpa [hg, hw] using rest
    | false =>
      have hw : w.discarded = false := Bool.eq_false_iff.2 fun hw => by simp [step.discarded hw] at hg
      simpa [hg, hw, step.key] using rest.cons_cons w.key

theorem Consistent.mapWalks {l : Lookup} (c : Consistent l) {g : Walk → Walk} (h : ∀ w ∈ l.walks, WalkKept w (g w)) :
    Consistent { l with walks := l.walks.map g } := by
  refine c.of_fewer ?_ ?_ ?_
  · exact (((List.Sublist.refl _).append (liveKeys_map_sublist h)).append (.refl _)).subperm
  · have same : (l.walks.map g).map Walk.charge = l.walks.map Walk.charge := by
      simp only [List.map_map]
      exact List.map_congr_left fun w hw => (h w hw).charge
    exact same ▸ List.Sublist.refl _
  · have fewer : (l.walks.map g).countP Walk.pin ≤ l.walks.countP Walk.pin := by
      rw [List.countP_map]
      exact List.countP_mono_left fun w hw => (h w hw).pin
    simp only [Lookup.pinCount]
    omega

theorem mapWalks_step (l : Lookup) {g : Walk → Walk} (h : ∀ w ∈ l.walks, WalkStep w (g w)) :
    LookupStep l { l with walks := l.walks.map g } := by
  refine ⟨rfl, rfl, rfl, fun b => ?_, fun c => c.mapWalks fun w hw => (h w hw).toWalkKept⟩
  rw [lookupBounded_iff] at b ⊢
  obtain ⟨records, bounded, walks, victim⟩ := b
  refine ⟨records, bounded, fun w' hw' => ?_, victim⟩
  obtain ⟨w, hw, rfl⟩ := List.mem_map.1 hw'
  exact (h w hw).bounded (walks w hw)

theorem mapWalk_step (l : Lookup) (c : Charge) {f : Walk → Walk} (h : ∀ w ∈ l.walks, w.charge = c → WalkStep w (f w)) :
    LookupStep l (l.mapWalk c f) := by
  refine mapWalks_step l fun w hw => ?_
  split
  case isTrue e => exact h w hw e
  case isFalse => exact .refl w

theorem endWalk_step (l : Lookup) (c : Charge) : LookupStep l (l.endWalk c) := by
  have fewer : (l.endWalk c).walks.Sublist l.walks := List.filter_sublist
  refine ⟨rfl, rfl, rfl, fun b => ?_, fun h => h.of_fewer ?_ ?_ ?_⟩
  · rw [lookupBounded_iff] at b ⊢
    obtain ⟨records, bounded, walks, victim⟩ := b
    exact ⟨records, bounded, fun w hw => walks w (fewer.subset hw), victim⟩
  · exact (((List.Sublist.refl _).append ((fewer.filter _).map _)).append (.refl _)).subperm
  · exact fewer.map _
  · have := fewer.countP_le (p := Walk.pin)
    simp only [Lookup.pinCount, Lookup.endWalk] at this ⊢
    omega

theorem changes_lookup {s : State} {l : Lookup} (h : LookupStep s.lookup l) : Changes s { s with lookup := l } :=
  .single (.lookup s l h)

/-! ### Walks restarted, dropped, discarded, purged and left -/

theorem changes_walkRequest (s : State) (c : Charge) (b : ℕ) : Changes s (s.walkRequest c b) :=
  have outstanding : Changes s
      { s with lookup := s.lookup.mapWalk c fun w => { w with outstanding := some b, dropData := false } } :=
    changes_lookup (mapWalk_step _ c fun _ _ _ => ⟨⟨rfl, rfl, id, id⟩, id⟩)
  outstanding.trans (changes_requestBucket _ c b)

theorem restarted_step (w : Walk) : WalkStep w w.restarted := ⟨⟨rfl, rfl, id, id⟩, fun _ => rfl⟩

theorem changes_restartWalk (s : State) (w : Walk) : Changes s (s.restartWalk w) := by
  have restarted := changes_lookup (mapWalk_step s.lookup w.charge fun v _ _ => restarted_step v)
  simp only [State.restartWalk]
  split
  · exact restarted
  · exact restarted.trans (changes_walkRequest _ _ _)

theorem changes_dropWalk (s : State) (w : Walk) : Changes s (s.dropWalk w) := by
  unfold State.dropWalk
  split
  · exact .refl
  · exact changes_lookup (endWalk_step _ _)

theorem changes_discardWalk (s : State) (w : Walk) : Changes s (s.discardWalk w) :=
  have discarded : Changes s { s with lookup := s.lookup.mapWalk w.charge fun w =>
      { w with pin := false, waiters := [], discarded := true } } :=
    changes_lookup (mapWalk_step _ w.charge fun _ _ _ => ⟨⟨rfl, rfl, fun _ => rfl, nofun⟩, id⟩)
  discarded.trans (changes_dropWalk _ w)

/-- A walk of a charge loses its pin. -/
theorem changes_unpinned (s : State) (c : Charge) :
    Changes s { s with lookup := s.lookup.mapWalk c fun w => { w with pin := false } } :=
  changes_lookup (mapWalk_step _ c fun _ _ _ => ⟨⟨rfl, rfl, id, nofun⟩, id⟩)

theorem changes_purgeWalk (s : State) (w : Walk) : Changes s (s.purgeWalk w) := by
  unfold State.purgeWalk
  split
  · exact .refl
  · split
    · exact changes_discardWalk s w
    · exact (changes_unpinned s w.charge).trans (changes_restartWalk _ w)

theorem changes_unpinWalk (s : State) (w : Walk) : Changes s (s.unpinWalk w) := by
  simp only [State.unpinWalk]
  split
  · exact (changes_unpinned s w.charge).trans (changes_dropWalk _ w)
  · exact changes_unpinned s w.charge

/-- The waiters of a walk are no concern of any bound. -/
theorem changes_waiters (s : State) (c : Charge) (f : Walk → List Head) :
    Changes s { s with lookup := s.lookup.mapWalk c fun w => { w with waiters := f w } } :=
  changes_lookup (mapWalk_step _ c fun _ _ _ => ⟨⟨rfl, rfl, id, id⟩, id⟩)

theorem changes_leaveWalk (s : State) (n : Head) : Changes s (s.leaveWalk n) := by
  unfold State.leaveWalk
  split
  · exact .refl
  case h_2 w _ =>
    have left := changes_waiters s w.charge fun _ => w.waiters.filter fun m => m != n
    simp only []
    split
    · exact left.trans (changes_dropWalk _ w)
    · exact left

theorem changes_restartTouching (s : State) (p : ℕ → Bool) : Changes s (s.restartTouching p) :=
  changes_foldl changes_restartWalk _ s

end Sys2Proof.Proofs
end

section
/-! PROOFS. Invariants, part 4: keyed changes of the lookup unit, captures, and samples looked up are runs of changes. -/

namespace Sys2Proof.Proofs
open Sys2Proof Sys2Proof.Machine

/-! ### Keys of records and walks -/

theorem subperm_map {α β : Type} (f : α → β) {l l' : List α} (h : l.Subperm l') : (l.map f).Subperm (l'.map f) :=
  let ⟨_, perm, sub⟩ := h
  ⟨_, perm.map f, sub.map f⟩

theorem mem_validKeys {l : Lookup} {k : CellKey} :
    k ∈ Safety.validKeys l ↔ ∃ r, some r ∈ l.records ∧ r.key = k := by
  simp [Safety.validKeys]

theorem mem_liveKeys {l : Lookup} {k : CellKey} :
    k ∈ Safety.liveKeys l ↔ ∃ w ∈ l.walks, w.discarded = false ∧ w.key = k := by
  simp [Safety.liveKeys, and_assoc]

theorem find_some {l : Lookup} {k : CellKey} {r : CellRecord} (h : l.find k = some r) :
    ∃ i, recordIndex k l.records = some i ∧ l.records[i]? = some (some r) ∧ r.key = k := by
  obtain ⟨i, index, at_⟩ := Option.bind_eq_some_iff.1 h
  obtain ⟨lt, key, -⟩ := List.findIdx?_eq_some_iff_getElem.1 index
  rw [recordAt, List.getD_eq_getElem _ _ lt] at at_
  rw [at_] at key
  exact ⟨i, index, by rw [List.getElem?_eq_getElem lt, at_], by simpa using key⟩

theorem find_eq_none_iff (l : Lookup) (k : CellKey) : l.find k = none ↔ k ∉ Safety.validKeys l := by
  have none_index : recordIndex k l.records = none ↔ k ∉ Safety.validKeys l := by
    rw [recordIndex, List.findIdx?_eq_none_iff, mem_validKeys]
    constructor
    · rintro h ⟨r, hr, key⟩
      simpa [key] using h _ hr
    · rintro h (_ | r) hr
      · rfl
      · simpa using fun key => h ⟨r, hr, key⟩
  rw [← none_index]
  constructor
  · intro h
    by_contra index
    obtain ⟨i, index⟩ := Option.ne_none_iff_exists'.1 index
    obtain ⟨lt, key, -⟩ := List.findIdx?_eq_some_iff_getElem.1 index
    rw [Lookup.find, index, Option.bind_some, recordAt, List.getD_eq_getElem _ _ lt] at h
    rw [h] at key
    cases key
  · intro h
    rw [Lookup.find, h]
    rfl

theorem walkFor_some {l : Lookup} {k : CellKey} {w : Walk} (h : l.walkFor k = some w) :
    w ∈ l.walks ∧ w.key = k ∧ w.discarded = false := by
  have := List.find?_some h
  simp only [Bool.and_eq_true, decide_eq_true_eq, Bool.not_eq_true'] at this
  exact ⟨List.mem_of_find?_eq_some h, this⟩

theorem walkFor_eq_none_iff (l : Lookup) (k : CellKey) : l.walkFor k = none ↔ k ∉ Safety.liveKeys l := by
  rw [Lookup.walkFor, List.find?_eq_none, mem_liveKeys]
  simp only [Bool.and_eq_true, decide_eq_true_eq, Bool.not_eq_true', not_exists, not_and]
  exact forall₂_congr fun w _ => ⟨fun h d e => h e d, fun h e d => h d e⟩

theorem chargeFree_iff (l : Lookup) (c : Charge) : l.chargeFree c = true ↔ c ∉ l.walks.map Walk.charge := by
  simp [Lookup.chargeFree]

/-! ### A walk started -/

/-- A new walk for a key that stands nowhere, on a free charge; keys may leave the re-walk list for it. -/
theorem newWalk_step {l : Lookup} {w : Walk} {rewalk : List CellKey} (free : l.chargeFree w.charge = true)
    (bounded : Safety.walkBounded w = true) (sub : rewalk.Sublist l.rewalk)
    (fresh : Consistent l → w.key ∉ Safety.validKeys l ∧ w.key ∉ Safety.liveKeys l ∧ w.key ∉ rewalk)
    (pins : w.pin.toNat + rewalk.length ≤ l.rewalk.length ∨ w.pin.toNat + l.pinCount ≤ 24) :
    LookupStep l { l with walks := l.walks ++ [w], rewalk := rewalk } := by
  refine ⟨rfl, rfl, rfl, fun b => ?_, fun c => ⟨?_, ?_, ?_⟩⟩
  · rw [lookupBounded_iff] at b ⊢
    obtain ⟨records, recordsBounded, walks, victim⟩ := b
    exact ⟨records, recordsBounded, fun v hv => (List.mem_append.1 hv).elim (walks v)
      fun hv => List.mem_singleton.1 hv ▸ bounded, victim⟩
  · obtain ⟨notValid, notLive, notListed⟩ := fresh c
    have keys := c.keys.sublist ((List.Sublist.refl _).append sub)
    have here : Safety.liveKeys { l with walks := l.walks ++ [w], rewalk := rewalk } =
      Safety.liveKeys l ++ if w.discarded then [] else [w.key] := liveKeys_append l w
    rw [here]
    split
    · rw [List.append_nil]; exact keys
    · have moved : (Safety.validKeys l ++ (Safety.liveKeys l ++ [w.key]) ++ rewalk).Perm
          (w.key :: (Safety.validKeys l ++ Safety.liveKeys l ++ rewalk)) := by
        simp only [← List.append_assoc]
        rw [List.append_assoc _ [w.key]]
        exact List.perm_middle
      exact moved.nodup_iff.2 (List.nodup_cons.2 ⟨by simp [notValid, notLive, notListed], keys⟩)
  · rw [chargeFree_iff] at free
    simpa [List.nodup_append, c.charges] using free
  · have sublist := sub.length_le
    have old := c.pins
    simp only [Lookup.pinCount, List.countP_append, List.countP_singleton] at *
    cases h : w.pin <;> simp [h] at pins ⊢ <;> omega

theorem changes_startWalk {s : State} {rewalk : List CellKey} {c : Charge} {k : CellKey} (waiters : List Head) {pin : Bool}
    (free : s.lookup.chargeFree c = true) (sub : rewalk.Sublist s.lookup.rewalk)
    (fresh : Consistent s.lookup → k ∉ Safety.validKeys s.lookup ∧ k ∉ Safety.liveKeys s.lookup ∧ k ∉ rewalk)
    (pins : pin.toNat + rewalk.length ≤ s.lookup.rewalk.length ∨ pin.toNat + s.lookup.pinCount ≤ 24) :
    Changes s ({ s with lookup := { s.lookup with rewalk := rewalk } }.startWalk c k waiters pin) :=
  have walk : Changes s { s with lookup := { s.lookup with
      walks := s.lookup.walks ++ [⟨c, k, waiters, pin, [], [], false, some (s.lookup.hashed k), false, false⟩]
      rewalk := rewalk } } :=
    changes_lookup (newWalk_step free rfl sub fresh pins)
  walk.trans (changes_requestBucket _ c _)

/-! ### A record inserted -/

theorem insert_cases (l : Lookup) (r : CellRecord) : l.insert r = l ∨
    ∃ i v, ∃ h : i < l.records.length, recordPinned l.records[i] = false ∧ (v = l.victim ∨ v < 32) ∧
      l.insert r = { l with records := l.records.set i (some r), victim := v } := by
  unfold Lookup.insert
  split
  case h_1 i free =>
    obtain ⟨lt, invalid, -⟩ := List.findIdx?_eq_some_iff_getElem.1 free
    exact .inr ⟨i, l.victim, lt, by simp [recordPinned, Option.isNone_iff_eq_none.1 invalid], .inl rfl, rfl⟩
  case h_2 =>
    split
    case h_1 i victim =>
      have unpinned := List.find?_some victim
      simp only [recordAt, Option.any_eq_true] at unpinned
      obtain ⟨x, at_, unpinned⟩ := unpinned
      have lt : i < l.records.length := by
        by_contra beyond
        rw [List.getD_eq_default _ _ (Nat.le_of_not_lt beyond)] at at_
        cases at_
      rw [List.getD_eq_getElem _ _ lt] at at_
      exact .inr ⟨i, (i + 1) % Config.cacheRecords, lt, by simpa [recordPinned, at_] using unpinned,
        .inr (Nat.mod_lt _ (by decide)), rfl⟩
    case h_2 => exact .inl rfl

/-- A live walk ends and a record of its key, with its pin, is inserted (R71). -/
theorem complete_step {l : Lookup} {w : Walk} {r : CellRecord} (hw : w ∈ l.walks) (live : w.discarded = false)
    (key : r.key = w.key) (pin : r.pinned = w.pin)
    (bounded : Safety.walkBounded w = true → Safety.recordBounded r = true) :
    LookupStep l ((l.endWalk w.charge).insert r) := by
  rcases insert_cases (l.endWalk w.charge) r with same | ⟨i, v, lt, unpinned, victim, inserted⟩
  · rw [same]; exact endWalk_step l w.charge
  rw [inserted]
  have records : (l.records.set i (some r)).Perm (some r :: l.records.eraseIdx i) := List.set_perm_cons_eraseIdx lt _
  have rest : (l.records.eraseIdx i).Sublist l.records := List.eraseIdx_sublist ..
  have walks : (w :: (l.endWalk w.charge).walks).Subperm l.walks := by
    have other : (l.endWalk w.charge).walks = (l.walks.filter fun v => v.charge != w.charge) := rfl
    have gone : (l.walks.filter fun v => v.charge != w.charge).Perm ((l.walks.erase w).filter fun v => v.charge != w.charge) := by
      simpa using (List.perm_cons_erase hw).filter fun v => v.charge != w.charge
    rw [other]
    exact ((List.subperm_cons w).2 (gone.subperm.trans List.filter_sublist.subperm)).trans (List.perm_cons_erase hw).symm.subperm
  refine ⟨rfl, rfl, rfl, fun b => ?_, fun c => ?_⟩
  · rw [lookupBounded_iff] at b ⊢
    obtain ⟨length, recordsBounded, walksBounded, victimBounded⟩ := b
    refine ⟨(List.length_set ..).trans length, fun x hx => ?_, fun x hx => walksBounded x (List.mem_of_mem_filter hx), ?_⟩
    · rcases List.mem_cons.1 (records.mem_iff.1 hx) with new | old
      · cases new; exact bounded (walksBounded w hw)
      · exact recordsBounded x (rest.subset old)
    · rcases victim with rfl | lt
      · exact victimBounded
      · exact lt
  · refine c.of_fewer ?_ (List.filter_sublist.map _) ?_
    · have valid : (Safety.validKeys { l.endWalk w.charge with records := l.records.set i (some r), victim := v }).Subperm
          (w.key :: Safety.validKeys l) := by
        have := records.filterMap fun r => r.map CellRecord.key
        refine this.subperm.trans ?_
        rw [List.filterMap_cons_some (b := w.key) (by simp [key])]
        exact ((rest.filterMap _).cons_cons w.key).subperm
      have liveSub : (w.key :: Safety.liveKeys (l.endWalk w.charge)).Subperm (Safety.liveKeys l) := by
        have := subperm_map Walk.key (walks.filter fun w => !w.discarded)
        simpa [Safety.liveKeys, live] using this
      have moved : ((w.key :: Safety.validKeys l) ++ Safety.liveKeys (l.endWalk w.charge)).Perm
          (Safety.validKeys l ++ (w.key :: Safety.liveKeys (l.endWalk w.charge))) := List.perm_middle.symm
      exact (List.subperm_append_right _).2 (((List.subperm_append_right _).2 valid).trans
        (moved.subperm.trans ((List.subperm_append_left _).2 liveSub)))
    · have pinned := records.countP_eq recordPinned
      have kept := rest.countP_le (p := recordPinned)
      have walkPins := walks.countP_le Walk.pin
      simp only [List.countP_cons, recordPinned, Option.any_some, pin] at pinned walkPins
      simp only [Lookup.pinCount, Lookup.endWalk] at *
      omega

/-! ### Records changed -/

/-- Records removed or changed within their bounds, their keys and without a new pin. -/
theorem mapRecords_step (l : Lookup) {g : CellRecord → Option CellRecord}
    (h : ∀ r r', g r = some r' → r'.key = r.key ∧ (r'.pinned = true → r.pinned = true) ∧
      (Safety.recordBounded r = true → Safety.recordBounded r' = true)) :
    LookupStep l { l with records := l.records.map fun r => r.bind g } := by
  refine ⟨rfl, rfl, rfl, fun b => ?_, fun c => c.of_fewer ?_ (.refl _) ?_⟩
  · rw [lookupBounded_iff] at b ⊢
    obtain ⟨length, records, walks, victim⟩ := b
    refine ⟨(List.length_map _).trans length, fun r' hr' => ?_, walks, victim⟩
    obtain ⟨o, ho, e⟩ := List.mem_map.1 hr'
    obtain ⟨r, rfl, e⟩ := Option.bind_eq_some_iff.1 e
    exact (h r r' e).2.2 (records r ho)
  · have keys : ((l.records.map fun r => r.bind g).filterMap fun r => r.map CellRecord.key).Sublist (Safety.validKeys l) := by
      unfold Safety.validKeys
      generalize l.records = rs
      induction rs with
      | nil => exact .slnil
      | cons o rs ih =>
        cases o with
        | none => simpa using ih
        | some r =>
          cases e : g r with
          | none => simpa [e] using ih.cons r.key
          | some r' => simpa [e, (h r r' e).1] using ih.cons_cons r.key
    exact ((keys.append (.refl _)).append (.refl _)).subperm
  · have fewer : (l.records.map fun r => r.bind g).countP recordPinned ≤ l.records.countP recordPinned := by
      rw [List.countP_map]
      refine List.countP_mono_left fun o _ ho => ?_
      simp only [Function.comp, recordPinned, Option.any_eq_true] at ho ⊢
      obtain ⟨r', e, pin⟩ := ho
      obtain ⟨r, rfl, e⟩ := Option.bind_eq_some_iff.1 e
      exact ⟨r, rfl, (h r r' e).2.1 pin⟩
    simp only [Lookup.pinCount] at *
    omega

theorem mapKey_step (l : Lookup) (k : CellKey) {f : CellRecord → Option CellRecord}
    (h : ∀ r r', f r = some r' → r'.key = r.key ∧ (r'.pinned = true → r.pinned = true) ∧
      (Safety.recordBounded r = true → Safety.recordBounded r' = true)) : LookupStep l (l.mapKey k f) := by
  refine mapRecords_step l fun r r' e => ?_
  split at e
  · exact h r r' e
  · cases e; exact ⟨rfl, id, id⟩

/-- A record with its points of one bucket and slot changed. -/
def onPoints (b : ℕ) (sl : Slot) (f : Point → Point) (r : CellRecord) : CellRecord :=
  { r with points := r.points.map fun p => if p.bucket = b && p.slot = sl then f p else p }

theorem mapPoints_eq (l : Lookup) (b : ℕ) (sl : Slot) (f : Point → Point) :
    l.mapPoints b sl f = { l with records := l.records.map fun r => r.bind fun r => some (onPoints b sl f r) } := by
  simp only [Lookup.mapPoints, Option.map_eq_bind]
  rfl

/-- The points of records changed, as many as before. -/
theorem mapPoints_step (l : Lookup) (b : ℕ) (sl : Slot) (f : Point → Point) : LookupStep l (l.mapPoints b sl f) := by
  rw [mapPoints_eq]
  exact mapRecords_step l fun r r' e => by cases e; exact ⟨rfl, id, by simp [Safety.recordBounded, onPoints]⟩

theorem applyUpdate_step (l : Lookup) (k : CellKey) (b : ℕ) (sl : Slot) (head number : ℕ) :
    LookupStep l (l.applyUpdate k b sl head number) :=
  mapKey_step l k fun r r' e => by cases e; exact ⟨rfl, id, by simp [Safety.recordBounded]⟩

/-- What holds after a change of one kind of entry held before, or the entry is of that kind. -/
theorem countP_le_add {α : Type} {p q r : α → Bool} {l : List α} (h : ∀ a ∈ l, p a = true → q a = true ∨ r a = true) :
    l.countP p ≤ l.countP q + l.countP r := by
  induction l with
  | nil => simp
  | cons a l ih =>
    have rest := ih fun a ha => h a (List.mem_cons_of_mem _ ha)
    have here := h a (List.mem_cons_self ..)
    rw [List.countP_cons, List.countP_cons, List.countP_cons]
    by_cases hp : p a = true
    · rcases here hp with hx | hx <;> simp only [hp, hx, if_true] <;> omega
    · rw [if_neg hp]
      omega

/-- No two records of a consistent unit have one key. -/
theorem Consistent.countP_key_le {l : Lookup} (c : Consistent l) (k : CellKey) :
    l.records.countP (fun r => r.any fun r => r.key = k) ≤ 1 := by
  have nodup : (Safety.validKeys l).Nodup := (List.nodup_append.1 (List.nodup_append.1 c.keys).1).1
  have counted : (Safety.validKeys l).count k = l.records.countP fun r => r.any fun r => r.key = k := by
    rw [List.count, Safety.validKeys, List.countP_filterMap]
    congr 1
    funext r
    cases r <;> simp [BEq.beq]
  exact counted ▸ List.nodup_iff_count_le_one.1 nodup k

/-- A record takes a pin while fewer than 24 are held (R75). -/
theorem setPin_step {l : Lookup} (k : CellKey) (room : l.pinCount < 24) : LookupStep l (l.setPin k true) := by
  refine ⟨rfl, rfl, rfl, fun b => ?_, fun c => ⟨?_, c.charges, ?_⟩⟩
  · rw [lookupBounded_iff] at b ⊢
    obtain ⟨length, records, walks, victim⟩ := b
    refine ⟨(List.length_map _).trans length, fun r' hr' => ?_, walks, victim⟩
    obtain ⟨o, ho, e⟩ := List.mem_map.1 hr'
    obtain ⟨r, rfl, changed⟩ := Option.bind_eq_some_iff.1 e
    have old := records r ho
    split at changed <;> cases changed <;> exact old
  · have keys : Safety.validKeys (l.setPin k true) = Safety.validKeys l := by
      simp only [Safety.validKeys, Lookup.setPin, Lookup.mapKey, List.filterMap_map]
      congr 1
      funext o
      cases o with
      | none => rfl
      | some r => simp only [Function.comp, Option.bind_some]; split <;> rfl
    rw [keys]
    exact c.keys
  · have more : (l.setPin k true).records.countP recordPinned ≤
        l.records.countP recordPinned + l.records.countP fun r => r.any fun r => r.key = k := by
      simp only [Lookup.setPin, Lookup.mapKey, List.countP_map]
      refine countP_le_add fun o _ ho => ?_
      cases o with
      | none => simp [recordPinned] at ho
      | some r =>
        by_cases key : r.key = k
        · simp [key]
        · simpa [key, recordPinned] using ho
    have := c.countP_key_le k
    simp only [Lookup.pinCount] at *
    have : (l.setPin k true).walks = l.walks := rfl
    have : (l.setPin k true).rewalk = l.rewalk := rfl
    simp only [*]
    omega

/-- A walk in flight takes a pin while fewer than 24 are held (R76). -/
theorem pinWalk_step {l : Lookup} (ch : Charge) (room : l.pinCount < 24) :
    LookupStep l (l.mapWalk ch fun w => { w with pin := true }) := by
  have keys : Safety.liveKeys (l.mapWalk ch fun w => { w with pin := true }) = Safety.liveKeys l := by
    simp only [Safety.liveKeys, Lookup.mapWalk]
    induction l.walks with
    | nil => rfl
    | cons w ws ih =>
      by_cases e : w.charge = ch <;> cases d : w.discarded <;> simp_all
  have charges : (l.mapWalk ch fun w => { w with pin := true }).walks.map Walk.charge = l.walks.map Walk.charge := by
    simp only [Lookup.mapWalk, List.map_map]
    refine List.map_congr_left fun w _ => ?_
    simp only [Function.comp]
    split <;> rfl
  refine ⟨rfl, rfl, rfl, fun b => ?_, fun c => ⟨?_, charges ▸ c.charges, ?_⟩⟩
  · rw [lookupBounded_iff] at b ⊢
    obtain ⟨length, records, walks, victim⟩ := b
    refine ⟨length, records, fun w' hw' => ?_, victim⟩
    obtain ⟨w, hw, rfl⟩ := List.mem_map.1 hw'
    split <;> exact walks w hw
  · have same := c.keys
    rw [← keys] at same
    exact same
  · have more : (l.mapWalk ch fun w => { w with pin := true }).walks.countP Walk.pin ≤
        l.walks.countP Walk.pin + l.walks.countP fun w => w.charge == ch := by
      simp only [Lookup.mapWalk, List.countP_map]
      refine countP_le_add fun w _ hw => ?_
      by_cases e : w.charge = ch
      · simp [e]
      · simpa [e] using hw
    have one : (l.walks.countP fun w => w.charge == ch) ≤ 1 := by
      have := List.nodup_iff_count_le_one.1 c.charges ch
      rwa [List.count, List.countP_map] at this
    simp only [Lookup.pinCount] at *
    have : (l.mapWalk ch fun w => { w with pin := true }).records = l.records := rfl
    have : (l.mapWalk ch fun w => { w with pin := true }).rewalk = l.rewalk := rfl
    simp only [*]
    omega

/-- Keys leave the re-walk list. -/
theorem rewalk_step (l : Lookup) {rewalk : List CellKey} (sub : rewalk.Sublist l.rewalk) :
    LookupStep l { l with rewalk := rewalk } := by
  refine ⟨rfl, rfl, rfl, fun b => ?_, fun c => c.of_fewer ((List.Sublist.refl _).append sub).subperm (.refl _) ?_⟩
  · rw [lookupBounded_iff] at b ⊢; exact b
  · have := sub.length_le
    simp only [Lookup.pinCount]
    omega

/-! ### Orders left open -/

theorem permuteFuel_perm {α : Type} (f k : ℕ) (l : List α) : (permuteFuel f k l).Perm l := by
  induction f generalizing k l with
  | zero => exact .refl _
  | succ f ih =>
    simp only [permuteFuel]
    split
    case h_1 a e =>
      obtain ⟨lt, rfl⟩ := List.getElem?_eq_some_iff.1 e
      exact ((ih _ _).cons _).trans (List.getElem_cons_eraseIdx_perm lt)
    case h_2 => exact .refl _

/-- An order left open is some order of the same entries. -/
theorem freelyOrdered_perm {α : Type} (l : List α) (s : State) : (freelyOrdered l s).1.Perm l := by
  unfold freelyOrdered
  split
  · exact .refl _
  · exact permuteFuel_perm _ _ _

/-! ### A completed write to the table -/

theorem freed_keys (p : ℕ → Bool) (rs : List (Option CellRecord)) :
    (((rs.map (Option.filter fun r => !r.touches p)).filterMap fun r => r.map CellRecord.key) ++
      rs.filterMap fun r => (Option.filter (fun r => r.pinned && r.touches p) r).map CellRecord.key).Subperm
      (rs.filterMap fun r => r.map CellRecord.key) := by
  induction rs with
  | nil => simp
  | cons o rs ih =>
    rcases o with _ | r
    · simpa using ih
    · simp only [List.filterMap_map, Function.comp_def] at ih
      cases touched : r.touches p <;> cases pinned : r.pinned <;> simp [touched, pinned]
      · exact (List.subperm_cons _).2 ih
      · exact (List.subperm_cons _).2 ih
      · exact ih.cons_right _
      · exact List.perm_middle.subperm.trans ((List.subperm_cons _).2 ih)

theorem freed_pins (p : ℕ → Bool) (rs : List (Option CellRecord)) :
    (rs.map (Option.filter fun r => !r.touches p)).countP recordPinned +
      (rs.filterMap fun r => (Option.filter (fun r => r.pinned && r.touches p) r).map CellRecord.key).length ≤
      rs.countP recordPinned := by
  induction rs with
  | nil => simp
  | cons o rs ih =>
    rcases o with _ | r
    · simpa [recordPinned] using ih
    · simp only [List.countP_map, Function.comp_def] at ih
      cases touched : r.touches p <;> cases pinned : r.pinned <;>
        simp [touched, pinned, recordPinned, Function.comp_def] at ih ⊢ <;> omega

/-- The records that touch a write are freed, the keys of the pinned ones listed (R81). -/
theorem freed_step (l : Lookup) (p : ℕ → Bool) {keys : List CellKey} (perm : keys.Perm (l.pinnedTouching p)) :
    LookupStep l { l with records := l.records.map (Option.filter fun r => !r.touches p), rewalk := l.rewalk ++ keys } := by
  have fewer := freed_keys p l.records
  have pins := freed_pins p l.records
  refine ⟨rfl, rfl, rfl, fun b => ?_, fun c => c.of_fewer ?_ (.refl _) ?_⟩
  · rw [lookupBounded_iff] at b ⊢
    obtain ⟨length, records, walks, victim⟩ := b
    refine ⟨(List.length_map _).trans length, fun r' hr' => ?_, walks, victim⟩
    obtain ⟨o, ho, e⟩ := List.mem_map.1 hr'
    exact records r' (by rw [Option.filter_eq_some_iff] at e; exact e.1 ▸ ho)
  · refine List.Subperm.trans ?_ ((List.subperm_append_right _).2 ((List.subperm_append_right _).2 fewer))
    refine List.Perm.subperm ?_
    have listed : (Safety.liveKeys l ++ (l.rewalk ++ keys)).Perm (l.pinnedTouching p ++ (Safety.liveKeys l ++ l.rewalk)) := by
      rw [← List.append_assoc]
      exact List.perm_append_comm.trans (perm.append_right _)
    simp only [List.append_assoc]
    exact List.Perm.append_left _ listed
  · have length : keys.length = (l.pinnedTouching p).length := perm.length_eq
    simp only [Lookup.pinCount, List.length_append, length, Lookup.pinnedTouching]
    omega

theorem changes_applyWrite (s : State) (addr len : ℕ) : Changes s (s.applyWrite addr len) := by
  have ordered := changes_freelyOrdered (s.lookup.pinnedTouching (bucketOverlaps s.lookup.base addr len)) s
  have perm := freelyOrdered_perm (s.lookup.pinnedTouching (bucketOverlaps s.lookup.base addr len)) s
  have same := (freelyOrdered_frame (s.lookup.pinnedTouching (bucketOverlaps s.lookup.base addr len)) s).2.2.2.2.2.2.2.2.2.1
  rw [← same] at perm
  exact (ordered.trans (changes_lookup (freed_step _ _ (by rw [same] at perm ⊢; exact perm)))).trans
    (changes_restartTouching _ _)

end Sys2Proof.Proofs
end

section
/-! PROOFS. Invariants, part 5: captures, samples looked up, requests and control are runs of changes; then every command. -/

namespace Sys2Proof.Proofs
open Sys2Proof Sys2Proof.Machine

/-! ### Settle work and attempts -/

theorem changes_clearSettle (s : State) (n : Head) : Changes s (s.clearSettle n) :=
  changes_setSettle (q := SettleQueue.empty) (Nat.zero_le 12)

theorem changes_settleWork (s : State) (n : Head) (h : Handed) : Changes s (s.settleWork n h) := by
  unfold State.settleWork
  split
  · exact (changes_clearSettle s n).trans (changes_reportSample _ n h)
  case h_2 b p _ =>
    have pushed := changes_setSettle (s := s) (n := n) (push_length_le (s.settle.get n) ⟨p.bucket, p.slot, p.id⟩ b.gen
      h.sample.index b.pos (inWindow b.pos p))
    simp only []
    split
    · exact pushed.trans (.single (.capture _ _ id))
    · exact pushed.trans (changes_reportSample _ n h)

theorem changes_toCapture (s : State) (n : Head) (h : Handed) : Changes s (s.toCapture n h) := by
  unfold State.toCapture
  split
  · exact changes_setBehind s n _
  · exact changes_settleWork s n h

theorem changes_followBehind (s : State) (n : Head) : Changes s (s.followBehind n) :=
  (changes_setBehind s n []).trans (changes_foldl (fun s h => changes_toCapture s n h) _ _)

theorem changes_endAttempt (s : State) (a : Attempt) : Changes s (s.endAttempt a) :=
  (changes_reportSample s _ _).trans (changes_followBehind _ _)

theorem changes_dropAttempts (s : State) (p : Attempt → Bool) : Changes s (s.dropAttempts p) :=
  have dropped : Changes s { s with capture := { s.capture with waiting := s.capture.waiting.filter fun a => !p a } } :=
    .single (.capture s _ id)
  dropped.trans (changes_foldl changes_endAttempt _ _)

/-! ### The running attempt -/

theorem changes_reserveRoom (s : State) (room : Room) : Changes s (s.reserveRoom room) := by
  cases room with
  | queue => exact changes_reserve s
  | ring => exact .refl

theorem changes_releaseRoom (s : State) (room : Room) : Changes s (s.releaseRoom room) := by
  cases room with
  | queue => exact changes_release s
  | ring => exact .refl

theorem captureTests_pass {s : State} {b : ℕ} {sl : Slot} {room : Room} (h : s.captureTests b sl = .pass room) :
    (s.capture.writeback.length < 8 ∨ wbHas s.capture.writeback b sl .waiting = true) ∧
    (room = .queue → s.report.placeFree = true) ∧
    (room = .ring → s.spill.count < 512 ∧ s.spill.writes.length < 4) := by
  simp only [State.captureTests] at h
  split_ifs at h with number inHand writing full queue ring configured writes
  all_goals
    have place : s.capture.writeback.length < 8 ∨ wbHas s.capture.writeback b sl .waiting = true := by
      simp only [Config.writebackPlaces, Bool.and_eq_true, decide_eq_true_eq, Bool.not_eq_true', not_and,
        Bool.not_eq_false] at full
      exact (Nat.lt_or_ge _ _).imp_right full
    cases h
  · simp only [Bool.and_eq_true] at queue
    exact ⟨place, fun _ => queue.2, nofun⟩
  · exact ⟨place, nofun, fun _ => ⟨Nat.lt_of_not_le ring, Nat.lt_of_not_le writes⟩⟩

theorem queueCaptured_length_le {q : List WbEntry} {b : ℕ} {sl : Slot} (head number : ℕ)
    (place : q.length < 8 ∨ wbHas q b sl .waiting = true) (h : q.length ≤ 8) :
    (queueCaptured q b sl head number).length ≤ 8 := by
  unfold queueCaptured
  split
  · simpa using h
  case isFalse absent =>
    have := place.resolve_right absent
    simp
    omega

theorem numberAfter_legal {k : ℕ} (h : Safety.within 1 4294967295 k = true) :
    (numberAfter k).all (Safety.within 1 4294967295) = true := by
  unfold numberAfter
  split
  · rfl
  · simp only [Safety.within, Bool.and_eq_true, decide_eq_true_eq, Option.all_some] at *
    omega

theorem spillBounded_iff (sp : Spill) : Safety.spillBounded sp = true ↔ sp.count ≤ 512 ∧ sp.writes.length ≤ 4 ∧
    drainsOutstanding sp ≤ 4 ∧ sp.readPos < 512 ∧ sp.writePos < 512 := by
  simp [Safety.spillBounded, and_assoc]

/-- A capture's effects but for its record: the cached point, the number taken, the write-back, the settle queue and the
trigger (R96). -/
def captured (s : State) (a : Attempt) (number : ℕ) : State :=
  ({ s with
    lookup := s.lookup.applyUpdate (attemptKey a) a.point.bucket a.point.slot (headNumber a.head) number
    capture := { s.capture with
      nextNumber := numberAfter number
      writeback := queueCaptured s.capture.writeback a.point.bucket a.point.slot (headNumber a.head) number } }.clearSettle
    a.head).idleTrigger a.head

/-- The payload of a capture's record (R97). -/
def captureBytes (s : State) (a : Attempt) (number : ℕ) (q : SettleQueue) : List Byte :=
  capturePayload number a.head a.point a.handed.sample s.time.quality (q.newest a.point.settle) (q.poseGen.getD 0)

theorem makeCapture_eq (s : State) (a : Attempt) (room : Room) (number : ℕ) (q : SettleQueue) :
    s.makeCapture a room number q = (captured s a number).placeRecord room (captureBytes s a number q) := rfl

/-- A record joins the ring, which has room for it (R106). -/
theorem changes_placeRecord_ring {s : State} (count : s.spill.count < 512) (writes : s.spill.writes.length < 4)
    (payload : List Byte) : Changes s (s.placeRecord .ring payload) := by
  have spilled : Changes s { s with spill := { s.spill with
      writePos := (s.spill.writePos + 1) % 512, count := s.spill.count + 1
      writes := s.spill.writes ++ [⟨s.spill.writePos, payload⟩] } } := by
    refine .single (.spill s _ ⟨rfl, fun b => ?_⟩)
    rw [spillBounded_iff] at b ⊢
    obtain ⟨-, -, drains, read, -⟩ := b
    refine ⟨count, ?_, drains, read, Nat.mod_lt _ (by decide)⟩
    rw [List.length_append, List.length_singleton]
    exact writes
  exact spilled.trans (changes_requestSpill _ _)

theorem changes_captured {s : State} {a : Attempt} {number : ℕ}
    (place : s.capture.writeback.length < 8 ∨ wbHas s.capture.writeback a.point.bucket a.point.slot .waiting = true)
    (next : s.capture.nextNumber = some number) : Changes s (captured s a number) := by
  have updated := changes_lookup (applyUpdate_step s.lookup (attemptKey a) a.point.bucket a.point.slot (headNumber a.head)
    number)
  refine ((updated.trans (.single (.capture _ _ fun b => ⟨queueCaptured_length_le _ _ place b.1, numberAfter_legal ?_⟩))).trans
    (changes_clearSettle _ a.head)).trans (changes_idleTrigger _ a.head)
  have := b.2
  simpa [next] using this

theorem changes_updateAndMake {s : State} {a : Attempt} {room : Room}
    (h : s.captureTests a.point.bucket a.point.slot = .pass room) : Changes s (s.updateAndMake a room) := by
  obtain ⟨place, -, ring⟩ := captureTests_pass h
  have reserved := changes_reserveRoom s room
  have capture : (s.reserveRoom room).capture = s.capture := by simp
  simp only [State.updateAndMake]
  split
  case h_1 k next _ =>
    rw [makeCapture_eq]
    refine (reserved.trans (changes_captured (by rwa [capture]) next)).trans ?_
    cases room with
    | queue => exact changes_enqueueReserved _ _
    | ring => exact changes_placeRecord_ring (s := captured s a k) (ring rfl).1 (ring rfl).2 _
  case h_2 => exact (reserved.trans (changes_releaseRoom _ room)).trans (changes_clearSettle _ _)
  case h_3 => exact reserved.trans (changes_releaseRoom _ room)

theorem changes_refuseCapture (s : State) (a : Attempt) (full : Bool) : Changes s (s.refuseCapture a full) := by
  have refused : Changes s ((s.clearSettle a.head).raise (some a.head) .captureRefused a.handed.sample.index) :=
    (changes_clearSettle s _).trans (changes_raise _ _ (by simp [kindOf, FaultKind.code]))
  simp only [State.refuseCapture]
  split
  · exact refused.trans (changes_raise _ _ (by simp [kindOf, FaultKind.code]))
  · exact refused

theorem changes_runAttempt (s : State) (a : Attempt) : Changes s (s.runAttempt a) := by
  unfold State.runAttempt
  split
  · exact .refl
  · split
    · exact changes_refuseCapture s a _
    · exact .refl
    case h_3 room h => exact changes_updateAndMake h

theorem changes_attempt (s : State) (a : Attempt) (rest : List Attempt) : Changes s (s.attempt a rest) := by
  have begun : Changes s { s with capture := { s.capture with waiting := rest, attempt := some a.head } } :=
    .single (.capture s _ id)
  have ended (t : State) : Changes t (t.setAttempt none) := .single (.capture t _ id)
  exact ((begun.trans (changes_runAttempt _ a)).trans (ended _)).trans (changes_endAttempt _ a)

/-! ### Samples looked up -/

theorem changes_handOn (s : State) (n : Head) (m : MeasuredSample) (r : LookupResult) : Changes s (s.handOn n m r) := by
  simp only [State.handOn]
  split
  · exact (changes_raise s _ (by simp [kindOf, FaultKind.code])).trans (changes_toCapture _ n _)
  · exact changes_toCapture s n _

theorem changes_finishLate (s : State) (n : Head) : Changes s (s.finishLate n) := by
  unfold State.finishLate
  split
  · exact (changes_setWaiting s n none).trans (changes_handOn _ n _ _)
  · exact .refl

theorem changes_finishAllLate (s : State) (p : WaitingSample → Bool) : Changes s (s.finishAllLate p) :=
  (changes_freelyOrdered _ s).trans (changes_foldl changes_finishLate _ _)

theorem changes_joinWalk (s : State) (n : Head) (m : MeasuredSample) (w : Walk) : Changes s (s.joinWalk n m w) :=
  (changes_waiters s w.charge fun w => w.waiters ++ [n]).trans (changes_setWaiting _ n _)

theorem changes_missed {s : State} {n : Head} {k : CellKey} (m : MeasuredSample) (miss : s.lookup.find k = none) :
    Changes s (s.missed n m k) := by
  unfold State.missed
  split
  · exact changes_joinWalk s n m _
  case h_2 noWalk =>
    split
    case isTrue free =>
      rw [find_eq_none_iff] at miss
      rw [walkFor_eq_none_iff] at noWalk
      have started := changes_startWalk (rewalk := s.lookup.rewalk.filter fun k' => k' != k) [n]
        (pin := s.lookup.rewalk.contains k) free List.filter_sublist (fun _ => ⟨miss, noWalk, by simp⟩) (.inl ?_)
      · exact started.trans (changes_setWaiting _ n _)
      · cases listed : s.lookup.rewalk.contains k with
        | false => simpa using List.length_filter_le _ _
        | true =>
          have fewer : (s.lookup.rewalk.filter fun k' => k' != k).length < s.lookup.rewalk.length :=
            List.length_filter_lt_length_iff_exists.2 ⟨k, by simpa using listed, by simp⟩
          simp only [Bool.toNat_true]
          omega
    case isFalse => exact changes_setWaiting s n _

theorem changes_lookupFresh (s : State) (n : Head) (m : MeasuredSample) : Changes s (s.lookupFresh n m) := by
  unfold State.lookupFresh
  split
  · exact changes_handOn s n m _
  · split
    · exact changes_handOn s n m _
    · simp only []
      split
      · exact changes_handOn s n m _
      case h_2 miss => exact changes_missed m miss

theorem changes_lookupSample (s : State) (n : Head) (m : MeasuredSample) : Changes s (s.lookupSample n m) := by
  unfold State.lookupSample
  split
  · exact changes_lookupFresh s n m
  · split
    · exact (changes_finishLate s n).trans (changes_lookupFresh _ n m)
    · split
      · exact (changes_finishLate s n).trans (changes_setWaiting _ n _)
      · exact ((changes_leaveWalk s n).trans (changes_finishLate _ n)).trans (changes_lookupFresh _ n m)

theorem changes_handWaiting (s : State) (r : CellRecord) (n : Head) : Changes s (s.handWaiting r n) := by
  unfold State.handWaiting
  split
  · exact (changes_setWaiting s n none).trans (changes_handOn _ n _ _)
  · exact .refl

theorem changes_answerPin (s : State) (r : CellRecord) : Changes s (s.answerPin r) := by
  unfold State.answerPin
  split
  · split
    · exact changes_answerInHand s _ _
    · exact .refl
  · exact .refl

/-! ### A walk's bucket read -/

/-- A walk after a bucket has been taken or examined: what stays as it was, and how much more it may hold (R67). -/
structure Taken (w w' : Walk) : Prop where
  key : w'.key = w.key
  charge : w'.charge = w.charge
  discarded : w'.discarded = w.discarded
  pin : w'.pin = w.pin
  matched : w.matched.length ≤ 4 → w'.matched.length ≤ 4

theorem examine_taken (q : List WbEntry) (bucket : ℕ) (sl : Slot) (bs : List Byte) (w : Walk) :
    Taken w (w.examine q bucket sl bs) ∧ (w.examine q bucket sl bs).visited = w.visited := by
  unfold Walk.examine
  split_ifs with mismatch again room
  · exact ⟨⟨rfl, rfl, rfl, rfl, id⟩, rfl⟩
  · exact ⟨⟨rfl, rfl, rfl, rfl, id⟩, rfl⟩
  · exact ⟨⟨rfl, rfl, rfl, rfl, fun _ => by simpa using room⟩, rfl⟩
  · exact ⟨⟨rfl, rfl, rfl, rfl, id⟩, rfl⟩

theorem take_taken (q : List WbEntry) (bucket : ℕ) (bs : List Byte) (w : Walk) :
    Taken w (w.take q bucket bs) ∧ (w.take q bucket bs).visited = w.visited ++ [bucket] := by
  obtain ⟨a, visitedA⟩ := examine_taken q bucket .a (field 0 Config.slotBytes bs)
    { w with visited := w.visited ++ [bucket], outstanding := none }
  obtain ⟨b, visitedB⟩ := examine_taken q bucket .b (field 30 Config.slotBytes bs)
    (Walk.examine q bucket .a (field 0 Config.slotBytes bs)
      { w with visited := w.visited ++ [bucket], outstanding := none })
  exact ⟨⟨b.key.trans a.key, b.charge.trans a.charge, b.discarded.trans a.discarded, b.pin.trans a.pin,
    b.matched ∘ a.matched⟩, visitedB.trans visitedA⟩

section
variable {s : State} {w w' : Walk} (hw : w ∈ s.lookup.walks) (live : w.discarded = false) (taken : Taken w w') {bucket : ℕ}
  (visited : w'.visited = w.visited ++ [bucket])
include hw live taken visited

theorem changes_completeWalk (incomplete : Bool) : Changes s (s.completeWalk w' incomplete) := by
  have completed : LookupStep s.lookup ((s.lookup.endWalk w'.charge).insert (w'.toRecord s.capture.writeback incomplete)) := by
    rw [taken.charge]
    refine complete_step hw live taken.key taken.pin fun b => ?_
    simp only [Safety.walkBounded, Safety.recordBounded, Walk.toRecord, Bool.and_eq_true, decide_eq_true_eq, visited,
      List.length_append, List.length_singleton, List.length_map] at b ⊢
    exact ⟨b.1, taken.matched b.2⟩
  exact (((changes_lookup completed).trans (changes_freelyOrdered _ _)).trans
    (changes_foldl (fun t n => changes_handWaiting t _ n) _ _)).trans (changes_answerPin _ _)

theorem changes_followLink (next : ℕ) : Changes s (s.followLink w' bucket next) := by
  have completed := changes_completeWalk hw live taken visited
  unfold State.followLink
  split
  · exact completed false
  · exact (completed true).trans (changes_raise _ _ (by simp [kindOf, FaultKind.code]))
  · exact (completed true).trans (changes_raise _ _ (by simp [kindOf, FaultKind.code]))
  case h_4 b follow =>
    have read : w'.visited.length < 4 := by
      unfold judgeLink at follow
      split_ifs at follow with done bad room
      exact room
    have followed : LookupStep s.lookup (s.lookup.mapWalk w'.charge fun _ => w') := by
      refine ⟨rfl, rfl, rfl, fun bounded => ?_, fun c => ?_⟩
      · rw [lookupBounded_iff] at bounded ⊢
        obtain ⟨length, records, walks, victim⟩ := bounded
        refine ⟨length, records, fun v hv => ?_, victim⟩
        obtain ⟨v, mem, rfl⟩ := List.mem_map.1 hv
        have old := walks w hw
        split
        · simp only [Safety.walkBounded, Bool.and_eq_true, decide_eq_true_eq] at old ⊢
          exact ⟨read, taken.matched old.2⟩
        · exact walks v mem
      · refine c.mapWalks fun v hv => ?_
        split
        case isTrue charge =>
          have same : v = w := List.inj_on_of_nodup_map c.charges hv hw (charge.trans taken.charge)
          rw [same]
          exact ⟨taken.key, taken.charge, fun d => taken.discarded.trans d, fun p => taken.pin ▸ p⟩
        case isFalse => exact ⟨rfl, rfl, id, id⟩
    exact (changes_lookup followed).trans (changes_walkRequest _ _ b)

end

theorem changes_walkData (s : State) (r : WalkRead) (bs : List Byte) : Changes s (s.walkData r bs) := by
  unfold State.walkData
  split
  · exact .refl
  case h_2 w found =>
    split
    · exact changes_lookup (endWalk_step _ _)
    case isFalse alive =>
      split
      · exact changes_walkRequest s _ _
      · have live : w.discarded = false := by
          simp only [Bool.or_eq_true, not_or, Bool.not_eq_true] at alive
          exact alive.1
        obtain ⟨taken, visited⟩ := take_taken s.capture.writeback r.bucket bs w
        exact changes_followLink (List.mem_of_find?_eq_some found) live taken visited _

end Sys2Proof.Proofs
end

section
/-! PROOFS. Invariants, part 6: frames received, requests, control and the part's own steps are runs of changes; then every
command is one. -/

namespace Sys2Proof.Proofs
open Sys2Proof Sys2Proof.Machine

/-! ### Frames received -/

theorem accept_fits {s : State} {n : Head} (m : MeasuredSample) : ContextFits s n ((s.ctx.get n).accept m) := id

theorem changes_takeSample (s : State) (n : Head) (r : RawSample) : Changes s (s.takeSample n r) := by
  unfold State.takeSample
  split
  · exact .refl
  · split
    · exact (changes_transition (accept_fits _) _ _).trans (changes_lookupSample _ n _)
    · exact changes_raise s _ (by simp [kindOf, FaultKind.code])

theorem changes_motionCommand (s : State) (n : Head) : Changes s (s.motionCommand n) := by
  simp only [State.motionCommand]
  split
  · refine changes_changeState (fun b => ?_) _ _
    simp_all [contextBounded_iff]
  · exact .refl

theorem changes_forwardDown (s : State) (n : Head) (f : List Byte) : Changes s (s.forwardDown n f) := by
  simp only [State.forwardDown]
  split
  case isTrue room =>
    have joined : Changes s (s.setPort n { s.ports.get n with forward := (s.ports.get n).forward ++ [f] }) :=
      changes_setPort fun b => ⟨by simpa using room, b.2⟩
    have placed := joined.trans (changes_kickHead _ n)
    split
    · exact placed.trans (changes_motionCommand _ n)
    · exact placed
  case isFalse => exact changes_countBad s _

theorem changes_routeHead (s : State) (n : Head) (f : List Byte) : Changes s (s.routeHead n f) := by
  unfold State.routeHead
  split
  · exact changes_takeSample s n _
  · split
    · exact changes_forwardUp s n f
    · exact changes_countBad s _

theorem changes_routeUplink (s : State) (f : List Byte) : Changes s (s.routeUplink f) := by
  unfold State.routeUplink
  split
  · exact changes_bufferRequest s f
  · split
    · split
      · exact changes_forwardDown s _ f
      · exact changes_countBad s _
    · exact changes_countBad s _

theorem changes_receive (s : State) (p : Port) (f : List Byte) : Changes s (s.receive p f) := by
  unfold State.receive
  split
  · exact changes_countBad s p
  · refine (changes_linkUp s p).trans ?_
    cases p with
    | head n => exact changes_routeHead _ n f
    | uplink => exact changes_routeUplink _ f

/-! ### Requests taken -/

theorem changes_serve {k : ℕ} {p : List Byte → Bool} {body : State → Request → State}
    (h : ∀ s r, Changes s (body s r)) (s : State) : Changes s (s.serve k p body) := by
  unfold State.serve
  split
  case h_1 r rest _ _ requests =>
    split
    · have taken : Changes s { s with uplink := { s.uplink with requests := rest } } :=
        .single (.uplink s _ fun b => ⟨b.1, by have := b.2.1; simp [requests] at this; exact (Nat.le_succ _).trans this,
          b.2.2⟩)
      simp only []
      split
      · exact taken.trans (h _ r)
      · exact taken.trans (changes_giveAnswer _ _ _ _ _)
    · exact .refl
  case h_2 => exact .refl

theorem changes_answerRead (s : State) (tag : Byte) (k : ℕ) (d : Option (List Byte)) : Changes s (s.answerRead tag k d) := by
  unfold State.answerRead
  split <;> exact changes_giveAnswer s _ _ _ _

theorem changes_unknownKind (s : State) : Changes s (match s.mgmt.inHand, s.mgmt.held, s.uplink.requests with
    | none, none, r :: rest =>
      let s' := { s with uplink := { s.uplink with requests := rest } }
      match requestKind r.payload with
      | none => s'.giveAnswer r.tag 0 .badLength []
      | some k => if knownKind k then s else s'.giveAnswer r.tag k .unknownKind []
    | _, _, _ => s) := by
  split
  case h_1 r rest _ _ requests =>
    have taken : Changes s { s with uplink := { s.uplink with requests := rest } } :=
      .single (.uplink s _ fun b => ⟨b.1, by have := b.2.1; simp [requests] at this; exact (Nat.le_succ _).trans this,
        b.2.2⟩)
    simp only []
    split
    · exact taken.trans (changes_giveAnswer _ _ _ _ _)
    · split
      · exact .refl
      · exact taken.trans (changes_giveAnswer _ _ _ _ _)
  case h_2 => exact .refl

/-- A request that is no TABLE_CONFIG stays in hand. -/
theorem changes_keepInHand (s : State) (tag : Byte) {w : Work} (h : ∀ base count shift, w ≠ .tableConfig base count shift) :
    Changes s (s.keepInHand tag w) :=
  .single (.mgmt s _ fun base count shift e => absurd (by simpa using e) (h base count shift))

/-! ### Values of fields -/

theorem field_length_le (off len : ℕ) (bs : List Byte) : (field off len bs).length ≤ len := by simp [field]

theorem natAt_lt (off len : ℕ) (bs : List Byte) : natAt off len bs < 256 ^ len :=
  (leNat_lt _).trans_le (Nat.pow_le_pow_right (by decide) (field_length_le off len bs))

theorem leInt_range (bs : List Byte) : -(256 ^ bs.length : ℕ) ≤ 2 * leInt bs ∧ 2 * leInt bs < (256 ^ bs.length : ℕ) := by
  have below := leNat_lt bs
  unfold leInt
  split <;> omega

theorem intAt_range (off len : ℕ) (bs : List Byte) :
    -(256 ^ len : ℕ) ≤ 2 * intAt off len bs ∧ 2 * intAt off len bs < (256 ^ len : ℕ) := by
  have range := leInt_range (field off len bs)
  have le : 256 ^ (field off len bs).length ≤ 256 ^ len := Nat.pow_le_pow_right (by decide) (field_length_le off len bs)
  unfold intAt
  omega

theorem within_iff (lo hi v : ℕ) : Safety.within lo hi v = true ↔ lo ≤ v ∧ v ≤ hi := by simp [Safety.within]

theorem clampNat_within {lo hi : ℕ} (h : lo ≤ hi) (v : ℕ) : Safety.within lo hi (clampNat lo hi v) = true := by
  rw [within_iff, clampNat]
  split_ifs <;> omega

/-! ### Setup -/

theorem measureLegal_iff (m : Measure) : Safety.measureLegal m = true ↔
    Safety.compLegal m.compAz = true ∧ Safety.compLegal m.compEl = true ∧ (1 ≤ m.countScale ∧ m.countScale ≤ 4294967295) ∧
    m.deadband ≤ 15 ∧ (1000000 ≤ m.distanceMax ∧ m.distanceMax ≤ 120000000) ∧
    Safety.signedVec 32 m.rotation.row1 = true ∧ Safety.signedVec 32 m.rotation.row2 = true ∧
    Safety.signedVec 32 m.rotation.row3 = true ∧ Safety.signedVec 32 m.translation = true ∧ m.poseGen < 65536 := by
  simp [Safety.measureLegal, within_iff, and_assoc]

theorem compLegal_iff (t : List Int) : Safety.compLegal t = true ↔ t.length = 256 ∧ ∀ e ∈ t, -32768 ≤ e ∧ e ≤ 32767 := by
  simp [Safety.compLegal]

theorem signedVec_iff (k : ℕ) (v : Vec3) : Safety.signedVec k v = true ↔
    (-((2 ^ (k - 1) : ℕ) : Int) ≤ v.x ∧ v.x < ((2 ^ (k - 1) : ℕ) : Int)) ∧
    (-((2 ^ (k - 1) : ℕ) : Int) ≤ v.y ∧ v.y < ((2 ^ (k - 1) : ℕ) : Int)) ∧
    (-((2 ^ (k - 1) : ℕ) : Int) ≤ v.z ∧ v.z < ((2 ^ (k - 1) : ℕ) : Int)) := by
  simp [Safety.signedVec, and_assoc]

theorem paramVec_signed (p : List Byte) (off : ℕ) : Safety.signedVec 32 (paramVec p off) = true := by
  have x := intAt_range off 4 p
  have y := intAt_range (off + 4) 4 p
  have z := intAt_range (off + 8) 4 p
  rw [signedVec_iff]
  norm_num [paramVec] at x y z ⊢
  omega

theorem changes_configureHead (s : State) (n : Head) (p : List Byte) (scale : paramScale p ≠ 0) :
    Changes s (s.configureHead n p) := by
  have measure : Changes s (s.setMeasure n (paramMeasure p (s.measure.get n))) := by
    refine changes_setMeasure fun legal => ?_
    rw [measureLegal_iff] at legal ⊢
    obtain ⟨az, el, -, -, -, rest⟩ := legal
    have lt := natAt_lt 2 4 p
    have deadband := clampNat_within (Nat.zero_le 15) (natAt 7 1 p)
    have distance := clampNat_within (lo := 1000000) (hi := 120000000) (by decide) (natAt 8 4 p)
    rw [within_iff] at deadband distance
    exact ⟨az, el, ⟨Nat.pos_of_ne_zero scale, Nat.le_of_lt_succ lt⟩, deadband.2, distance, rest⟩
  have settings (t : State) : Changes t (t.setSettings n (paramSettings p)) := .single (.settings t n p)
  have range := clampNat_within (lo := 1) (hi := 64) (by decide) (natAt 25 1 p)
  rw [within_iff] at range
  have decimation (t : State) : Changes t (t.setDecimation n { t.report.decimation.get n with
      configured := paramDecimation p, effective := paramDecimation p }) := by
    refine changes_setDecimation ⟨fun b => ?_, fun _ => ⟨range, range, le_rfl⟩⟩
    rw [decimationBounded_iff] at b ⊢
    exact ⟨range.2, range.2, b.2.2⟩
  have window (t : State) : Changes t (t.setHeadTime n { t.headTime.get n with window := paramWindow p }) := by
    have range := clampNat_within (lo := 1) (hi := 4095) (by decide) (natAt 26 2 p)
    refine changes_setHeadTime ⟨rfl, rfl, fun _ => range, fun b => ?_⟩
    rw [headTimeBounded_iff] at b ⊢
    rw [within_iff] at range
    exact ⟨b.1, range.2, b.2.2⟩
  exact ((measure.trans (settings _)).trans (decimation _)).trans (window _)

theorem writeEntries_legal {first : ℕ} {es t : List Int} (room : first + es.length ≤ 256)
    (entries : ∀ e ∈ es, -32768 ≤ e ∧ e ≤ 32767) (h : Safety.compLegal t = true) :
    Safety.compLegal (writeEntries first es t) = true := by
  rw [compLegal_iff] at h ⊢
  obtain ⟨length, old⟩ := h
  refine ⟨by simp [writeEntries, length]; omega, fun e he => ?_⟩
  simp only [writeEntries, List.mem_append] at he
  rcases he with (he | he) | he
  · exact old e (List.mem_of_mem_take he)
  · exact entries e he
  · exact old e (List.mem_of_mem_drop he)

theorem changes_writeCompensation (s : State) (n : Head) (axis : ℕ) {first : ℕ} {p : List Byte}
    (room : first + (paramEntries p).length ≤ 256) : Changes s (s.writeCompensation n axis first (paramEntries p)) := by
  have entries : ∀ e ∈ paramEntries p, -32768 ≤ e ∧ e ≤ 32767 := fun e he => by
    obtain ⟨i, -, rfl⟩ := List.mem_map.1 he
    have := intAt_range (4 + 2 * i) 2 p
    norm_num at this
    omega
  refine changes_setMeasure fun legal => ?_
  rw [measureLegal_iff] at legal
  obtain ⟨az, el, rest⟩ := legal
  split
  · exact (measureLegal_iff _).2 ⟨writeEntries_legal room entries az, el, rest⟩
  · exact (measureLegal_iff _).2 ⟨az, writeEntries_legal room entries el, rest⟩

theorem changes_storePose (s : State) (n : Head) (p : List Byte) : Changes s (s.storePose n (paramPose p)) := by
  have stored : Changes s (s.setMeasure n { s.measure.get n with
      rotation := (paramPose p).1, translation := (paramPose p).2, poseGen := indexAfter (s.measure.get n).poseGen }) := by
    refine changes_setMeasure fun legal => ?_
    rw [measureLegal_iff] at legal ⊢
    obtain ⟨az, el, scale, deadband, distance, -⟩ := legal
    exact ⟨az, el, scale, deadband, distance, paramVec_signed _ _, paramVec_signed _ _, paramVec_signed _ _,
      paramVec_signed _ _, Nat.mod_lt _ (by decide)⟩
  exact (stored.trans (changes_clearSettle _ n)).trans (changes_dropAttempts _ _)

/-- A base on a boundary of a table's size below the end of memory leaves room for the table (R57). -/
theorem table_fits {base count : ℕ} (legal : legalBucketCount count = true) (aligned : base % (count * 64) = 0)
    (below : base < 67108864) : base + count * 64 ≤ 67108864 := by
  simp only [legalBucketCount, List.contains_eq_mem, List.mem_cons, List.not_mem_nil, or_false, decide_eq_true_eq] at legal
  rcases legal with rfl | rfl | rfl | rfl | rfl | rfl | rfl | rfl | rfl <;> omega

theorem tableLegal_of_tests {s : State} {base count shift : ℕ} (h : s.tableTests base count shift = none) :
    Safety.tableLegal base count shift = true := by
  unfold State.tableTests at h
  split_ifs at h with service range counts aligned address ring
  simp only [Bool.or_eq_true, decide_eq_true_eq, not_or, Nat.not_lt] at range
  simp only [Bool.not_eq_true', Bool.not_eq_false] at counts
  have aligned : base % (count * 64) = 0 := Decidable.not_not.1 aligned
  have fits := table_fits counts aligned (Nat.lt_of_not_le address)
  simp only [Safety.tableLegal, Bool.and_eq_true, within_iff, beq_iff_eq, decide_eq_true_eq]
  exact ⟨⟨⟨range, counts⟩, aligned⟩, fits⟩

theorem changes_applyTable {s : State} {base count shift : ℕ}
    (h : s.mgmt.inHand.map InHand.work = some (.tableConfig base count shift)) : Changes s (s.applyTable base count shift) :=
  ((Relation.ReflTransGen.single (.table s base count shift h)).trans (changes_foldl changes_discardWalk _ _)).trans
    (changes_finishAllLate _ _)

theorem changes_placeRing {s : State} {base : ℕ} (h : s.spillTests base = none) : Changes s (s.placeRing base) := by
  unfold State.spillTests at h
  split_ifs at h with service busy aligned address table
  exact .single (.ring s base (Decidable.not_not.1 aligned) (Nat.lt_of_not_le address))

theorem paramTiming_legal (p : List Byte) : Safety.timingLegal (paramTiming p) = true := by
  simp only [Safety.timingLegal, paramTiming, Bool.and_eq_true]
  exact ⟨⟨⟨⟨clampNat_within (by decide) _, clampNat_within (by decide) _⟩, clampNat_within (by decide) _⟩,
    clampNat_within (by decide) _⟩, clampNat_within (by decide) _⟩

theorem changes_configureMemory (s : State) (i : Interleave) (p : List Byte) :
    Changes s (s.configureMemory i (paramInterval p) (paramTiming p)) :=
  .single (.mem s _ ⟨fun _ => paramTiming_legal p, fun _ => clampNat_within (by decide) _, id⟩)

/-! ### Purges, pins and point states -/

theorem changes_purgeKey (s : State) (k : CellKey) : Changes s (s.purgeKey k) := by
  have purged : Changes s { s with lookup := { s.lookup.mapKey k fun _ => none with
      rewalk := s.lookup.rewalk.filter fun k' => k' != k } } :=
    changes_lookup ((mapKey_step s.lookup k fun _ _ e => by cases e).trans (rewalk_step _ List.filter_sublist))
  simp only [State.purgeKey]
  split
  · exact purged.trans (changes_purgeWalk _ _)
  · exact purged

theorem noRecords_step (l : Lookup) :
    LookupStep l { l with records := List.replicate Config.cacheRecords none, rewalk := [] } := by
  refine ⟨rfl, rfl, rfl, fun b => ?_, fun c => c.of_fewer ?_ (.refl _) ?_⟩
  · rw [lookupBounded_iff] at b ⊢
    exact ⟨List.length_replicate, fun r hr => by simp at hr, b.2.2⟩
  · have none_valid : Safety.validKeys { l with records := List.replicate Config.cacheRecords none, rewalk := [] } = [] := by
      simp [Safety.validKeys]
    rw [none_valid]
    have live : (Safety.liveKeys l).Subperm (Safety.validKeys l ++ Safety.liveKeys l ++ l.rewalk) :=
      ((List.sublist_append_right _ _).trans (List.sublist_append_left _ _)).subperm
    exact (List.append_nil _).symm ▸ live
  · have none_pinned : (List.replicate 32 none).countP recordPinned = 0 := by decide
    simp only [Lookup.pinCount, Config.cacheRecords, none_pinned, List.length_nil]
    omega

theorem changes_purgeEvery (s : State) : Changes s s.purgeEvery :=
  (changes_lookup (noRecords_step s.lookup)).trans (changes_foldl changes_purgeWalk _ _)

/-- What PIN_CELL's cases tell of the lookup unit (R76). -/
theorem pinCase_room {s : State} {k : CellKey} :
    (s.pinCase k = .record → s.lookup.pinCount < 24) ∧
    (∀ w, s.pinCase k = .joinWalk w → s.lookup.pinCount < 24) ∧
    (s.pinCase k = .newWalk → s.lookup.pinCount < 24 ∧ s.lookup.chargeFree .management = true ∧
      s.lookup.find k = none ∧ s.lookup.walkFor k = none ∧ k ∉ s.lookup.rewalk) := by
  simp only [State.pinCase]
  split
  · simp
  split
  · simp
  case isFalse held =>
  split
  case isTrue record =>
    simp only [Bool.and_eq_true, decide_eq_true_eq] at record
    exact ⟨fun _ => record.2, nofun, nofun⟩
  case isFalse record =>
  split
  · simp
  case isFalse limit =>
  have room : s.lookup.pinCount < 24 := Nat.lt_of_not_le limit
  have miss : s.lookup.find k = none := by
    by_contra found
    simp only [Bool.and_eq_true, decide_eq_true_eq, not_and] at record
    exact record (Option.isSome_iff_ne_none.2 found) room
  simp only [Bool.or_eq_true, not_or, List.contains_iff_mem] at held
  split
  · simp
  split
  · exact ⟨nofun, fun _ _ => room, nofun⟩
  case h_2 noWalk =>
  split
  case isTrue free => exact ⟨nofun, nofun, fun _ => ⟨room, free, miss, noWalk, held.2⟩⟩
  case isFalse => exact ⟨nofun, nofun, nofun⟩

theorem changes_pinKey (s : State) (tag : Byte) (k : CellKey) : Changes s (s.pinKey tag k) := by
  obtain ⟨record, join, new⟩ := pinCase_room (s := s) (k := k)
  unfold State.pinKey
  split
  · exact changes_giveAnswer s _ _ _ _
  · exact changes_giveAnswer s _ _ _ _
  case h_3 e => exact (changes_lookup (setPin_step k (record e))).trans (changes_giveAnswer _ _ _ _ _)
  case h_4 w e => exact (changes_lookup (pinWalk_step w.charge (join w e))).trans (changes_keepInHand _ _ nofun)
  case h_5 e =>
    obtain ⟨room, free, miss, noWalk, notListed⟩ := new e
    rw [find_eq_none_iff] at miss
    rw [walkFor_eq_none_iff] at noWalk
    exact (changes_startWalk (rewalk := s.lookup.rewalk) [] free (.refl _) (fun _ => ⟨miss, noWalk, notListed⟩)
      (.inr (by simp only [Bool.toNat_true]; omega))).trans (changes_keepInHand _ _ nofun)
  · exact changes_keepInHand s _ nofun

theorem changes_unpinKey (s : State) (k : CellKey) : Changes s (s.unpinKey k) := by
  have unpinned : Changes s { s with lookup := { s.lookup.setPin k false with
      rewalk := s.lookup.rewalk.filter fun k' => k' != k } } :=
    changes_lookup ((mapKey_step s.lookup k fun r r' e => by cases e; exact ⟨rfl, fun pinned => (by cases pinned), id⟩).trans
      (rewalk_step _ List.filter_sublist))
  simp only [State.unpinKey]
  split
  · split
    · exact unpinned.trans (changes_unpinWalk _ _)
    · exact unpinned
  · exact unpinned

theorem changes_updatePoints (s : State) (w : PointWrite) (asked : PointState) : Changes s (s.updatePoints w asked) :=
  changes_lookup (mapPoints_step _ _ _ _)

theorem changes_ownPointWrite (s : State) (tag : Byte) (w : PointWrite) (asked : PointState) :
    Changes s (s.ownPointWrite tag w asked) :=
  ((changes_updatePoints s w asked).trans (changes_keepInHand _ _ fun _ _ _ e => by cases e)).trans (changes_requestMgmt _ _)

theorem changes_takePointState (s : State) (tag : Byte) (b : ℕ) (sl : Slot) (asked : PointState) :
    Changes s (s.takePointState tag b sl asked) := by
  simp only [State.takePointState]
  split
  · exact changes_keepInHand s _ nofun
  · split
    · have merged (t : State) (w : PointWrite) : Changes t (t.mergeEntry w) := changes_writeback t (by simp)
      exact ((changes_updatePoints s _ asked).trans (merged _ _)).trans (changes_giveAnswer _ _ _ _ _)
    · exact changes_ownPointWrite s tag _ asked

theorem changes_completePointWrite (s : State) (w : PointWrite) : Changes s (s.completePointWrite w) := by
  simp only [State.completePointWrite]
  exact ((changes_writeSlot s _ _ _ _ _).trans (changes_lookup (mapPoints_step _ _ _ _))).trans (changes_restartTouching _ _)

/-! ### Control -/

theorem changes_enableHead (s : State) (n : Head) : Changes s (s.enableHead n) := by
  simp only [State.enableHead]
  split
  · exact changes_changeState id _ _
  · exact .refl

theorem changes_disableHead (s : State) (n : Head) : Changes s (s.disableHead n) := by
  have disabled : ContextFits s n (s.ctx.get n).disable := fun b => by
    simp_all [contextBounded_iff, Context.disable]
  simp only [State.disableHead]
  split
  · exact changes_idleTrigger s n
  · exact (changes_changeState disabled _ _).trans (changes_idleTrigger _ n)

theorem changes_headMode {work : State → Head → State} (h : ∀ s n, Changes s (work s n)) (s : State) (r : Request) :
    Changes s (s.headMode r work) := by
  unfold State.headMode
  split
  · exact changes_giveAnswer s _ _ _ _
  · split
    · exact changes_giveAnswer s _ _ _ _
    · exact h s _

theorem changes_setTarget {work : State → State} (h : ∀ s, Changes s (work s)) (s : State) (r : Request) :
    Changes s (s.setTarget r work) := by
  unfold State.setTarget
  split
  · exact changes_giveAnswer s _ _ _ _
  · exact h s

theorem changes_setService (s : State) (v : ServiceState) : Changes s (s.setService v) := .single (.service s v)

theorem changes_clearAllSettle (s : State) : Changes s s.clearAllSettle :=
  .single (.settle s _ fun n _ => by simp [SettleQueue.empty])

theorem changes_beginInit (s : State) : Changes s s.beginInit :=
  (changes_setService s .init).trans (changes_mem _ rfl rfl (.inl le_rfl))

theorem changes_enterHold (s : State) : Changes s s.enterHold :=
  ((changes_setService s .hold).trans (changes_clearAllSettle _)).trans (changes_dropAttempts _ _)

theorem changes_enterQuiescing (s : State) : Changes s s.enterQuiescing := by
  have parked := (changes_setService s .quiescing).trans (changes_foldl changes_parkHead allHeads _)
  have dropped := (parked.trans (changes_clearAllSettle _)).trans (changes_dropAttempts _ fun _ => true)
  have quiesced (t : State) : Changes t (t.setQuiesce true) := changes_mem t rfl rfl (.inl le_rfl)
  exact (dropped.trans (changes_finishAllLate _ _)).trans (quiesced _)

theorem changes_beginWake (s : State) : Changes s s.beginWake :=
  (changes_setService s .waking).trans (changes_mem _ rfl rfl (.inl le_rfl))

theorem changes_beginDrain (s : State) : Changes s s.beginDrain :=
  (Relation.ReflTransGen.single (.restartMark s true)).trans (changes_finishAllLate _ _)

/-! ### Spill writes, drain reads and the arbiter -/

theorem changes_completeWriteback (s : State) (e : WbEntry) : Changes s (s.completeWriteback e) :=
  (changes_writeSlot s _ _ _ _ _).trans (changes_writeback _ (List.length_filter_le _ _))

theorem changes_completeSpillWrite (s : State) (w : SpillWrite) : Changes s (s.completeSpillWrite w) := by
  refine (Relation.ReflTransGen.single (.cells s (spillAddress s.spill.base w.pos) (padTo Config.bucketBytes w.data))).trans
    (.single (.spill _ _ ⟨rfl, fun b => ?_⟩))
  rw [spillBounded_iff] at b ⊢
  obtain ⟨count, writes, rest⟩ := b
  exact ⟨count, (List.length_filter_le _ _).trans writes, rest⟩

theorem changes_startDrain {s : State} (waits : s.drainWaits = true) : Changes s s.startDrain := by
  have started : Changes s { s with spill := { s.spill with drains := s.spill.drains ++ [⟨s.spill.nextDrain, none⟩] } } := by
    refine .single (.spill s _ ⟨rfl, fun b => ?_⟩)
    simp only [State.drainWaits, Bool.and_eq_true, decide_eq_true_eq] at waits
    rw [spillBounded_iff] at b ⊢
    obtain ⟨count, writes, -, rest⟩ := b
    refine ⟨count, writes, ?_, rest⟩
    simpa [drainsOutstanding] using waits.2
  exact (started.trans (changes_reserve _)).trans (changes_requestSpill _ _)

theorem changes_releaseDrain {s : State} {d : Drain} {rest : List Drain} (h : s.spill.drains = d :: rest) (bs : List Byte) :
    Changes s (s.releaseDrain bs rest) := by
  have left : Changes s { s with spill := { s.spill with
      drains := rest, readPos := (s.spill.readPos + 1) % 512, count := s.spill.count - 1 } } := by
    refine .single (.spill s _ ⟨rfl, fun b => ?_⟩)
    rw [spillBounded_iff] at b ⊢
    obtain ⟨count, writes, drains, -, write⟩ := b
    refine ⟨(Nat.sub_le _ _).trans count, writes, ?_, Nat.mod_lt _ (by decide), write⟩
    simp only [drainsOutstanding, h] at drains ⊢
    exact ((List.sublist_cons_self d rest).countP_le).trans drains
  exact left.trans (changes_enqueueReserved _ _)

theorem changes_releaseDrains (ds : List Drain) (s : State) (h : s.spill.drains = ds) : Changes s (s.releaseDrains ds) := by
  induction ds generalizing s with
  | nil => exact .refl
  | cons d rest ih =>
    rcases d with ⟨pos, _ | bs⟩
    · exact .refl
    · refine (changes_releaseDrain h bs).trans (ih _ ?_)
      simp [State.releaseDrain]

theorem changes_completeDrainRead (s : State) (pos : ℕ) (bs : List Byte) : Changes s (s.completeDrainRead pos bs) := by
  refine (Relation.ReflTransGen.single (.spill s { s.spill with drains := drainData pos bs s.spill.drains }
    ⟨rfl, fun b => ?_⟩)).trans (changes_releaseDrains _ _ rfl)
  rw [spillBounded_iff] at b ⊢
  have fewer : drainsOutstanding { s.spill with drains := drainData pos bs s.spill.drains } ≤ drainsOutstanding s.spill := by
    simp only [drainsOutstanding, drainData, List.countP_map]
    refine List.countP_mono_left fun d _ h => ?_
    simp only [Function.comp] at h
    split at h
    · cases h
    · exact h
  exact ⟨b.1, b.2.1, fewer.trans b.2.2.1, b.2.2.2⟩

theorem changes_takeSlot (s : State) (k : Option Head) (h : HeldEvent) : Changes s (s.takeSlot k h) := by
  have taken : Changes s { s with report := { s.report.setSlot k none with visiting := slotAfter k } } :=
    changes_report s (by cases k <;> rfl)
  exact taken.trans (changes_enqueue _ _)

theorem changes_leaveSource (s : State) (t : TxSource) : Changes s (s.leaveSource t) := by
  cases t with
  | report =>
    have left : Changes s { s with report := { s.report with queue := s.report.queue.tail } } := changes_report s rfl
    exact left.trans (changes_afterFall _)
  | forward =>
    refine .single (.uplink s _ fun b => ⟨?_, b.2⟩)
    exact (List.length_tail .. ▸ Nat.sub_le _ _).trans b.1
  | detached => exact .refl

/-! ### Every command -/

/-- A run of changes from a state to the one that an outcome gives. -/
def Leads (s : State) (o : Out) : Prop := ∀ t, o = .next t → Changes s t

theorem leads_next {s t : State} (h : Changes s t) : Leads s (.next t) := fun _ e => by cases e; exact h

theorem leads_withinMemory {s t : State} (h : Changes s t) (addr len : ℕ) : Leads s (withinMemory addr len t) := by
  unfold withinMemory
  split
  · exact leads_next h
  · exact fun _ e => by cases e

theorem leads_setup (s : State) : Leads s (execSyncConfig s) ∧ Leads s (execHeadConfig s) ∧ Leads s (execWriteComp s) ∧
    Leads s (execWritePose s) ∧ Leads s (execTableConfig s) ∧ Leads s (execTableConfigApply s) ∧
    Leads s (execSpillConfig s) ∧ Leads s (execMemConfig s) ∧ Leads s (execSetArbiter s) := by
  refine ⟨?sync, ?head, ?comp, ?pose, ?table, ?apply, ?spill, ?mem, ?arbiter⟩
  case sync =>
    refine leads_next (changes_serve (fun s r => ?_) s)
    have pending : Changes s (s.setPendingSync (paramSync r.payload)) :=
      .single (.time s _ ⟨rfl, rfl, rfl, .inr ⟨_, rfl⟩, id, id⟩)
    exact pending.trans (changes_giveAnswer _ _ _ _ _)
  case head =>
    refine leads_next (changes_serve (fun s r => ?_) s)
    split
    · exact changes_giveAnswer s _ _ _ _
    · split
      · exact changes_giveAnswer s _ _ _ _
      case isFalse scale => exact (changes_configureHead s _ _ scale).trans (changes_giveAnswer _ _ _ _ _)
  case comp =>
    refine leads_next (changes_serve (fun s r => ?_) s)
    simp only []
    split
    · exact changes_giveAnswer s _ _ _ _
    · split
      · exact changes_giveAnswer s _ _ _ _
      case isFalse room =>
        simp only [Bool.or_eq_true, decide_eq_true_eq, not_or, Nat.not_lt] at room
        exact (changes_writeCompensation s _ _ room.2).trans (changes_giveAnswer _ _ _ _ _)
  case pose =>
    refine leads_next (changes_serve (fun s r => ?_) s)
    split
    · exact changes_giveAnswer s _ _ _ _
    · exact (changes_storePose s _ _).trans (changes_giveAnswer _ _ _ _ _)
  case table =>
    refine leads_next (changes_serve (fun s r => ?_) s)
    simp only []
    split
    · exact changes_giveAnswer s _ _ _ _
    case h_2 legal =>
      exact .single (.mgmt s _ fun base count shift e => .inr (by
        simp only [Option.map_some, Option.some.injEq, Work.tableConfig.injEq] at e
        obtain ⟨rfl, rfl, rfl⟩ := e
        exact tableLegal_of_tests legal))
  case apply =>
    refine leads_next ?_
    split
    case h_1 work =>
      split
      · exact (changes_applyTable work).trans (changes_answerInHand _ _ _)
      · exact .refl
    · exact .refl
  case spill =>
    refine leads_next (changes_serve (fun s r => ?_) s)
    simp only []
    split
    · exact changes_giveAnswer s _ _ _ _
    case h_2 legal => exact (changes_placeRing legal).trans (changes_giveAnswer _ _ _ _ _)
  case mem =>
    refine leads_next (changes_serve (fun s r => ?_) s)
    split
    · exact changes_giveAnswer s _ _ _ _
    · split
      · exact changes_giveAnswer s _ _ _ _
      · exact (changes_configureMemory s _ _).trans (changes_giveAnswer _ _ _ _ _)
  case arbiter =>
    refine leads_next (changes_serve (fun s r => ?_) s)
    have exchanged : Changes s (s.setExchange (natAt 1 1 r.payload)) := changes_mem s rfl rfl (.inl le_rfl)
    exact exchanged.trans (changes_giveAnswer _ _ _ _ _)

theorem leads_table (s : State) : Leads s (execMemRead s) ∧ Leads s (execMemWrite s) ∧ Leads s (execMemWriteResume s) ∧
    Leads s (execMemReadDone s) ∧ Leads s (execMemWriteDone s) ∧ Leads s (execPurgeCell s) ∧ Leads s (execPurgeAll s) ∧
    Leads s (execPinCell s) ∧ Leads s (execPinCellResume s) ∧ Leads s (execUnpinCell s) ∧ Leads s (execPointState s) ∧
    Leads s (execPointStateResume s) ∧ Leads s (execPointStateWriteDone s) := by
  have write (s : State) (tag : Byte) (addr : ℕ) (data : List Byte) :
      Changes s ((s.keepInHand tag (.memWrite addr data)).requestMgmt (.write addr data)) :=
    (changes_keepInHand s tag fun _ _ _ e => by cases e).trans (changes_requestMgmt _ _)
  refine ⟨?memRead, ?memWrite, ?resume, ?readDone, ?writeDone, ?purge, ?purgeAll, ?pin, ?pinResume, ?unpin, ?point,
    ?pointResume, ?pointDone⟩
  case memRead =>
    refine leads_next (changes_serve (fun s r => ?_) s)
    simp only []
    split
    · exact changes_giveAnswer s _ _ _ _
    · exact (changes_keepInHand s _ fun _ _ _ e => by cases e).trans (changes_requestMgmt _ _)
  case memWrite =>
    refine leads_next (changes_serve (fun s r => ?_) s)
    simp only []
    split
    · exact changes_giveAnswer s _ _ _ _
    · split
      · exact changes_keepInHand s _ fun _ _ _ e => by cases e
      · exact write s _ _ _
  case resume =>
    refine leads_next ?_
    split
    · split
      · exact .refl
      · exact write s _ _ _
    · exact .refl
  case readDone =>
    unfold execMemReadDone
    split
    · exact leads_withinMemory ((changes_endAccess s).trans (changes_answerInHand _ _ _)) _ _
    · exact leads_next .refl
  case writeDone =>
    unfold execMemWriteDone
    split
    · exact leads_withinMemory ((((changes_endAccess s).tail (.cells _ _ _)).trans (changes_applyWrite _ _ _)).trans
        (changes_answerInHand _ _ _)) _ _
    · exact leads_next .refl
  case purge =>
    exact leads_next (changes_serve (fun s r => (changes_purgeKey s _).trans (changes_giveAnswer _ _ _ _ _)) s)
  case purgeAll =>
    exact leads_next (changes_serve (fun s r => (changes_purgeEvery s).trans (changes_giveAnswer _ _ _ _ _)) s)
  case pin => exact leads_next (changes_serve (fun s r => changes_pinKey s _ _) s)
  case pinResume =>
    refine leads_next ?_
    split
    · split
      · exact changes_pinKey s _ _
      · exact .refl
    · exact .refl
  case unpin =>
    exact leads_next (changes_serve (fun s r => (changes_unpinKey s _).trans (changes_giveAnswer _ _ _ _ _)) s)
  case point =>
    refine leads_next (changes_serve (fun s r => ?_) s)
    split
    · exact changes_takePointState s _ _ _ _
    · exact changes_giveAnswer s _ _ _ _
    · exact changes_giveAnswer s _ _ _ _
  case pointResume =>
    refine leads_next ?_
    split
    · split
      · exact .refl
      · exact changes_ownPointWrite s _ _ _
    · exact .refl
  case pointDone =>
    unfold execPointStateWriteDone
    split
    · exact leads_withinMemory (((changes_endAccess s).trans (changes_completePointWrite _ _)).trans
        (changes_answerInHand _ _ _)) _ _
    · exact leads_next .refl

theorem leads_control (s : State) : Leads s (execHeadModeEnable s) ∧ Leads s (execHeadModeDisable s) ∧
    Leads s (execHeadModeAim s) ∧ Leads s (execClearFault s) ∧ Leads s (execSetServiceActive s) ∧
    Leads s (execSetServiceHold s) ∧ Leads s (execSetServiceStandby s) ∧ Leads s (execSetServiceWake s) ∧
    Leads s (execRestart s) ∧ Leads s (execRestartProper s) := by
  refine ⟨?enable, ?disable, ?aim, ?clear, ?active, ?hold, ?standby, ?wake, ?restart, ?proper⟩
  case enable =>
    refine leads_next (changes_serve (fun s r => changes_headMode (fun s n => ?_) s r) s)
    split
    · exact (changes_enableHead s n).trans (changes_giveAnswer _ _ _ _ _)
    · exact changes_giveAnswer s _ _ _ _
  case disable =>
    refine leads_next (changes_serve (fun s r => changes_headMode (fun s n => ?_) s r) s)
    split
    · exact (changes_disableHead s n).trans (changes_giveAnswer _ _ _ _ _)
    · exact changes_giveAnswer s _ _ _ _
  case aim =>
    refine leads_next (changes_serve (fun s r => changes_headMode (fun s n => ?_) s r) s)
    split
    · exact (changes_startSearch id _ _ _ _).trans (changes_giveAnswer _ _ _ _ _)
    · exact changes_giveAnswer s _ _ _ _
  case clear =>
    refine leads_next (changes_serve (fun s r => ?_) s)
    split
    · exact changes_giveAnswer s _ _ _ _
    case h_2 k _ =>
      have cleared : Changes s (s.setFault k FaultRecord.empty) :=
        .single (.fault s k _ fun _ => by cases k <;> exact (faultsLegal_iff ..).2 (by simp [FaultRecord.empty]))
      exact cleared.trans (changes_giveAnswer _ _ _ _ _)
  case active =>
    refine leads_next (changes_serve (fun s r => changes_setTarget (fun s => ?_) s r) s)
    split
    · exact (changes_beginInit s).trans (changes_keepInHand _ _ nofun)
    · exact (changes_setService s _).trans (changes_giveAnswer _ _ _ _ _)
    · exact (changes_setService s _).trans (changes_giveAnswer _ _ _ _ _)
    all_goals exact changes_giveAnswer s _ _ _ _
  case hold =>
    refine leads_next (changes_serve (fun s r => changes_setTarget (fun s => ?_) s r) s)
    split
    · exact (changes_enterHold s).trans (changes_giveAnswer _ _ _ _ _)
    all_goals exact changes_giveAnswer s _ _ _ _
  case standby =>
    refine leads_next (changes_serve (fun s r => changes_setTarget (fun s => ?_) s r) s)
    split
    · exact (changes_enterQuiescing s).trans (changes_keepInHand _ _ nofun)
    · exact (changes_enterQuiescing s).trans (changes_keepInHand _ _ nofun)
    all_goals exact changes_giveAnswer s _ _ _ _
  case wake =>
    refine leads_next (changes_serve (fun s r => changes_setTarget (fun s => ?_) s r) s)
    split
    · exact (changes_beginWake s).trans (changes_keepInHand _ _ nofun)
    all_goals exact changes_giveAnswer s _ _ _ _
  case restart =>
    refine leads_next (changes_serve (fun s r => ?_) s)
    split
    · exact (changes_beginDrain s).trans (changes_keepInHand _ _ nofun)
    · exact changes_giveAnswer s _ _ _ _
  case proper =>
    refine leads_next ?_
    split
    · split
      · exact (Relation.ReflTransGen.single (.restart s)).trans (changes_answerInHand _ _ _)
      · exact .refl
    · exact .refl

theorem leads_memory (s : State) : Leads s (execCaptureAttempt s) ∧ Leads s (execRefreshExpiry s) ∧
    Leads s (execMemoryGrant s) ∧ Leads s (execWalkReadDone s) ∧ (∀ n, Leads s (execPendingStartRetry n s)) ∧
    Leads s (execRewalkStart s) ∧ Leads s (execWritebackDone s) ∧ Leads s (execSpillWriteDone s) ∧
    Leads s (execDrainReadStart s) ∧ Leads s (execDrainReadDone s) := by
  refine ⟨?attempt, ?refresh, ?grant, ?walk, fun n => ?retry, ?rewalk, ?writeback, ?spill, ?drain, ?drained⟩
  case attempt =>
    refine leads_next ?_
    split
    · exact changes_attempt s _ _
    · exact .refl
  case refresh =>
    refine leads_next ?_
    split
    · exact changes_mem s rfl rfl (.inr (Nat.min_le_left _ _))
    · exact .refl
  case grant =>
    refine leads_next ?_
    split
    · split
      · exact changes_grant s _
      · exact .refl
    · exact .refl
  case walk =>
    unfold execWalkReadDone
    split
    · exact leads_withinMemory ((changes_endAccess s).trans (changes_walkData _ _ _)) _ _
    · exact leads_next .refl
  case retry =>
    refine leads_next ?_
    split
    · split
      · exact (changes_setWaiting s n none).trans (changes_lookupFresh _ n _)
      · exact .refl
    · exact .refl
  case rewalk =>
    refine leads_next ?_
    split
    case h_1 k rest listed =>
      split
      case isTrue ready =>
        simp only [Bool.and_eq_true] at ready
        refine changes_startWalk (rewalk := rest) [] ready.1.2 (listed ▸ List.sublist_cons_self _ _) (fun c => ?_)
          (.inl (by simp [listed]; omega))
        have keys := c.keys
        simp only [listed, List.nodup_append, List.nodup_cons, List.mem_append, List.mem_cons] at keys
        exact ⟨fun h => keys.2.2 k (.inl h) k (.inl rfl) rfl, fun h => keys.2.2 k (.inr h) k (.inl rfl) rfl, keys.2.1.1⟩
      case isFalse => exact .refl
    · exact .refl
  case writeback =>
    unfold execWritebackDone
    split
    · split
      · exact leads_withinMemory ((changes_endAccess s).trans (changes_completeWriteback _ _)) _ _
      · exact leads_next (changes_endAccess s)
    · exact leads_next .refl
  case spill =>
    unfold execSpillWriteDone
    split
    · split
      · exact leads_withinMemory ((changes_endAccess s).trans (changes_completeSpillWrite _ _)) _ _
      · exact leads_next (changes_endAccess s)
    · exact leads_next .refl
  case drain =>
    refine leads_next ?_
    split
    case isTrue ready =>
      simp only [Bool.and_eq_true] at ready
      exact changes_startDrain ready.1.1
    case isFalse => exact .refl
  case drained =>
    unfold execDrainReadDone
    split
    · exact leads_withinMemory ((changes_endAccess s).trans (changes_completeDrainRead _ _ _)) _ _
    · exact leads_next .refl

theorem leads_course (s : State) : Leads s (execRefreshDone s) ∧ Leads s (execInitSettleEnd s) ∧
    Leads s (execInitRefreshDone s) ∧ Leads s (execSelfRefreshEntry s) ∧ Leads s (execSelfRefreshExitDone s) := by
  have rows (s : State) : Changes s s.closeRows := changes_mem s rfl rfl (.inl le_rfl)
  have phase (s : State) (p : Option InitPhase) : Changes s (s.setInitPhase p) := changes_mem s rfl rfl (.inl le_rfl)
  have active (s : State) {owed : ℕ} (h : owed ≤ 8) : Changes s (s.becomeActive owed) :=
    (changes_setService s .active).trans (changes_mem _ rfl rfl (.inr h))
  refine ⟨?refresh, ?settle, ?first, ?entry, ?exit⟩
  case refresh =>
    refine leads_next ?_
    split
    · exact (changes_endAccess s).trans (rows _)
    · exact .refl
  case settle =>
    refine leads_next ?_
    split
    · exact (rows s).trans (phase _ _)
    · exact .refl
  case first =>
    refine leads_next ?_
    split
    · split
      · exact (active s (Nat.zero_le 8)).trans (changes_answerInHand _ _ _)
      · exact phase s _
    · exact .refl
  case entry =>
    refine leads_next ?_
    split
    · have entered : Changes s s.enterSelfRefresh :=
        (changes_setService s .standby).trans (changes_mem _ rfl rfl (.inl le_rfl))
      exact entered.trans (changes_answerInHand _ _ _)
    · exact .refl
  case exit =>
    refine leads_next ?_
    split
    · exact ((active s (by decide : 1 ≤ 8)).trans (changes_foldl changes_wakeHead allHeads _)).trans
        (changes_answerInHand _ _ _)
    · exact .refl

theorem leads_report (s : State) : Leads s (execEventSlotTaken s) ∧ Leads s (execHeldAnswerEntry s) ∧
    Leads s (execUplinkTxEnd s) ∧ ∀ n, Leads s (execHeadTxEnd n s) := by
  refine ⟨?slot, ?held, ?uplink, fun n => ?head⟩
  case slot =>
    refine leads_next ?_
    split
    · split
      · exact changes_takeSlot s _ _
      · exact .refl
    · exact .refl
  case held =>
    refine leads_next ?_
    split
    · split
      · have emptied : Changes s { s with mgmt := { s.mgmt with held := none } } := changes_mgmt_inHand s _ (.inr rfl)
        exact emptied.trans (changes_enqueue _ _)
      · exact .refl
    · exact .refl
  case uplink =>
    refine leads_next ?_
    split
    · have idle : Changes s { s with uplink := { s.uplink with sending := none } } := .single (.uplink s _ id)
      exact (idle.trans (changes_leaveSource _ _)).trans (changes_kickUplink _)
    · exact .refl
  case head =>
    refine leads_next ?_
    split
    · have idle : Changes s (s.setPort n { s.ports.get n with sending := none }) := changes_setPort id
      exact idle.trans (changes_kickHead _ n)
    · exact .refl

/-- Every command but HARD_RESET is a run of changes. -/
theorem exec_leads {c : Instr} (notReset : c ≠ .hardReset) (s : State) : Leads s (exec c s) := by
  have received (p : Port) (f : List Byte) : Leads s (.next (s.receive p f)) := leads_next (changes_receive s p f)
  have expired (n : Head) (b : Bool) : Leads s (.next (s.expireIf n b)) := leads_next (changes_expireIf s n b)
  have read {k : ℕ} {body : State → Request → State} (h : ∀ s r, Changes s (body s r)) :
      Leads s (.next (s.serve k anyPayload body)) := leads_next (changes_serve h s)
  obtain ⟨syncConfig, headConfig, writeComp, writePose, tableConfig, tableApply, spillConfig, memConfig, setArbiter⟩ :=
    leads_setup s
  obtain ⟨memRead, memWrite, memWriteResume, memReadDone, memWriteDone, purgeCell, purgeAll, pinCell, pinResume, unpinCell,
    pointState, pointResume, pointDone⟩ := leads_table s
  obtain ⟨enable, disable, aim, clearFault, active, hold, standby, wake, restart, restartProper⟩ := leads_control s
  obtain ⟨attempt, refreshExpiry, grant, walkRead, retry, rewalk, writeback, spillWrite, drainStart, drainDone⟩ :=
    leads_memory s
  obtain ⟨refreshDone, settleEnd, firstRefresh, entry, exitDone⟩ := leads_course s
  obtain ⟨slotTaken, heldEntry, uplinkEnd, headEnd⟩ := leads_report s
  cases c with
  | hardReset => exact absurd rfl notReset
  | badFrame p f => exact received p f
  | sampleFrame n f => exact received (.head n) f
  | headStatusFrame n f => exact received (.head n) f
  | headCommandFrame f => exact received .uplink f
  | managementRequestFrame f => exact received .uplink f
  | discardedGoodFrame p f => exact received p f
  | unknownKindRequest => exact leads_next (changes_unknownKind s)
  | readPart => exact read fun s r => changes_answerRead s _ _ _
  | readHead => exact read fun s r => changes_answerRead s _ _ _
  | readTime => exact read fun s r => changes_answerRead s _ _ _
  | readFault => exact read fun s r => changes_answerRead s _ _ _
  | readCell =>
    refine read fun s r => ?_
    simp only []
    split
    · split
      · exact (Relation.ReflTransGen.single (.freeCount s _)).trans (changes_answerRead _ _ _ _)
      · exact changes_answerRead s _ _ _
    · exact changes_answerRead s _ _ _
  | syncConfig => exact syncConfig
  | headConfig => exact headConfig
  | writeComp => exact writeComp
  | writePose => exact writePose
  | tableConfig => exact tableConfig
  | tableConfigApply => exact tableApply
  | spillConfig => exact spillConfig
  | memConfig => exact memConfig
  | setArbiter => exact setArbiter
  | memRead => exact memRead
  | memWrite => exact memWrite
  | memWriteResume => exact memWriteResume
  | memReadDone => exact memReadDone
  | memWriteDone => exact memWriteDone
  | purgeCell => exact purgeCell
  | purgeAll => exact purgeAll
  | pinCell => exact pinCell
  | pinCellResume => exact pinResume
  | unpinCell => exact unpinCell
  | pointState => exact pointState
  | pointStateResume => exact pointResume
  | pointStateWriteDone => exact pointDone
  | headModeEnable => exact enable
  | headModeDisable => exact disable
  | headModeAim => exact aim
  | clearFault => exact clearFault
  | setServiceActive => exact active
  | setServiceHold => exact hold
  | setServiceStandby => exact standby
  | setServiceWake => exact wake
  | restart => exact restart
  | restartProper => exact restartProper
  | syncEpoch =>
    refine leads_next ?_
    split
    · exact .single (.epoch s)
    · exact .refl
  | syncExpiry n => exact expired n _
  | silenceLimit n => exact expired n _
  | coastLimit n => exact expired n _
  | searchDwellEnd n => exact expired n _
  | settleExpiry n => exact expired n _
  | triggerExpired n => exact expired n _
  | syncPulseEnd n =>
    refine leads_next ?_
    split
    · exact changes_setHeadTime ⟨rfl, rfl, id, id⟩
    · exact .refl
  | triggerEdge n =>
    refine leads_next ?_
    split
    · exact changes_takeEdge s n
    · exact .refl
  | referenceEdge => exact leads_next (changes_referenceEdge s)
  | referenceTimeout =>
    refine leads_next ?_
    split
    · exact changes_loseReference s
    · exact .refl
  | lockUpComplete =>
    refine leads_next ?_
    split
    · exact changes_setTime (lockUpDone_step _)
    · exact .refl
  | captureAttempt => exact attempt
  | refreshExpiry => exact refreshExpiry
  | memoryGrant => exact grant
  | walkReadDone => exact walkRead
  | pendingStartRetry n => exact retry n
  | rewalkStart => exact rewalk
  | writebackDone => exact writeback
  | spillWriteDone => exact spillWrite
  | drainReadStart => exact drainStart
  | drainReadDone => exact drainDone
  | refreshDone => exact refreshDone
  | initSettleEnd => exact settleEnd
  | initRefreshDone => exact firstRefresh
  | selfRefreshEntry => exact entry
  | selfRefreshExitDone => exact exitDone
  | eventSlotTaken => exact slotTaken
  | heldAnswerEntry => exact heldEntry
  | uplinkTxEnd => exact uplinkEnd
  | headTxEnd n => exact headEnd n

theorem exec_changes {c : Instr} (notReset : c ≠ .hardReset) {s t : State} (h : exec c s = .next t) : Changes s t :=
  exec_leads notReset s t h

end Sys2Proof.Proofs
end

section
/-! PROOFS. Invariants, part 7: the reset state, and what every step keeps. -/

namespace Sys2Proof.Proofs
open Sys2Proof Sys2Proof.Machine

/-! ### From changes to steps -/

theorem changes_keep {P : State → Prop} (change : ∀ s t, Change s t → P s → P t) {s t : State} (h : Changes s t) (hs : P s) :
    P t := by
  induction h with
  | refl => exact hs
  | tail _ last ih => exact change _ _ last ih

/-- HARD_RESET leaves the reset state, but for the queue and the model's own counts (R184; log 31). -/
theorem exec_hardReset {s t : State} (h : exec .hardReset s = .next t) :
    t = { State.reset with pending := s.pending, freeCount := s.freeCount, resetCount := s.resetCount + 1 } := by
  cases h; rfl

theorem getD_mod_mem {α : Type} (l : List α) {n : ℕ} (k : ℕ) {d : α} (h : 0 < l.length) (e : n = l.length := by rfl) :
    l.getD (k % n) d ∈ l := by
  have inRange : k % n < l.length := e ▸ Nat.mod_lt _ (e ▸ h)
  rw [List.getD_eq_getElem _ _ inRange]
  exact List.getElem_mem inRange

/-- What a step does: a command on the rest of the queue, one of the part's own steps, or a tick. -/
theorem step_cases {s t : State} (h : step s = .next t) :
    t = s.tick ∨ ∃ c p k, (s.pending = c :: p ∨ s.pending = [] ∧ p = [] ∧ c ∈ s.due) ∧
      exec c { s with pending := p, freeCount := k } = .next t := by
  unfold step at h
  split at h
  case h_1 c rest e => exact .inr ⟨c, rest, s.freeCount, .inl e, h⟩
  case h_2 e =>
    have same (k : ℕ) : ({ s with freeCount := k } : State) = { s with pending := [], freeCount := k } := by rw [← e]
    unfold State.idle at h
    split at h
    · exact .inl (by cases h; rfl)
    case h_2 c due => exact .inr ⟨c, [], s.freeCount, .inr ⟨e, rfl, by simp [due]⟩, by rw [← same]; exact h⟩
    case h_3 c d rest due =>
      refine .inr ⟨_, [], s.freeCount + 1, .inr ⟨e, rfl, ?_⟩, by rw [← same]; exact h⟩
      rw [due]
      exact getD_mod_mem _ _ (Nat.succ_pos _)

/-- An invariant holds over every step that holds over changes, over HARD_RESET and over a tick, whatever the queue. -/
theorem step_keeps {P : State → Prop} (change : ∀ s t, Change s t → P s → P t)
    (reset : ∀ p k r, P { State.reset with pending := p, freeCount := k, resetCount := r })
    (queue : ∀ s p k, P s → P { s with pending := p, freeCount := k }) (tick : ∀ s, P s → P s.tick) {s t : State} (hs : P s)
    (h : step s = .next t) : P t := by
  rcases step_cases h with rfl | ⟨c, p, k, -, run⟩
  · exact tick s hs
  · by_cases isReset : c = .hardReset
    · subst isReset
      rw [exec_hardReset run]
      exact reset _ _ _
    · exact changes_keep change (exec_changes isReset run) (queue s p k hs)

/-! ### Table memory and the reference -/

/-- Settles O3: only writes of bytes change what table memory lists. -/
theorem stepKeepsMemoryCanonical : Obligations.StepKeepsMemoryCanonical := by
  intro s t hs h
  refine step_keeps (P := fun s => Safety.memoryCanonical s = true) (fun s t change wf => ?_) (fun _ _ _ => State.reset_wf)
    (fun _ _ _ => id) (fun _ => id) hs h
  cases change with
  | cells a bs => exact State.writeBytes_wf s a bs wf
  | fault k f _ => cases k <;> exact wf
  | _ => exact wf

theorem referenceLegal_iff (s : State) : Safety.referenceLegal s = true ↔ refLegal s.time := by
  cases e : s.time.refState <;> simp [Safety.referenceLegal, refLegal, e]

/-- Settles O7: a change of the time base keeps the pair, and nothing else holds it. -/
theorem stepKeepsReferenceLegal : Obligations.StepKeepsReferenceLegal := by
  intro s t hs h
  rw [referenceLegal_iff] at hs ⊢
  refine step_keeps (P := fun s => refLegal s.time) (fun s t change legal => ?_) (fun _ _ _ => rfl) (fun _ _ _ => id)
    (fun _ => id) hs h
  cases change with
  | time t step => exact step.reference legal
  | fault k f _ => cases k <;> exact legal
  | _ => exact legal

/-! ### The lookup unit -/

theorem cacheConsistent_iff (s : State) : Safety.cacheConsistent s = true ↔ Consistent s.lookup := by
  simp only [Safety.cacheConsistent, Bool.and_eq_true, decide_eq_true_eq]
  exact ⟨fun ⟨⟨keys, charges⟩, pins⟩ => ⟨keys, charges, pins⟩, fun ⟨keys, charges, pins⟩ => ⟨⟨keys, charges⟩, pins⟩⟩

/-- No records, no walks and no listed keys. -/
theorem empty_consistent {l : Lookup} (records : l.records = List.replicate 32 none) (walks : l.walks = [])
    (rewalk : l.rewalk = []) : Consistent l := by
  constructor
  · simp [Safety.validKeys, Safety.liveKeys, records, walks, rewalk]
  · simp [walks]
  · simp [Lookup.pinCount, recordPinned, records, walks, rewalk]

theorem noRecords_bounded {l : Lookup} (records : l.records = List.replicate 32 none)
    (walks : ∀ w ∈ l.walks, Safety.walkBounded w = true) (victim : l.victim < 32) : Safety.lookupBounded l = true := by
  rw [lookupBounded_iff]
  exact ⟨by simp [records], fun r hr => by simp [records] at hr, walks, victim⟩

/-- Settles O8: a change of the lookup unit keeps its keys, charges and pins; a new table, a restart and a hard reset leave
none but those of walks. -/
theorem stepKeepsCacheConsistent : Obligations.StepKeepsCacheConsistent := by
  intro s t hs h
  rw [cacheConsistent_iff] at hs ⊢
  refine step_keeps (P := fun s => Consistent s.lookup) (fun s t change c => ?_)
    (fun _ _ _ => empty_consistent rfl rfl rfl) (fun _ _ _ => id) (fun _ => id) hs h
  cases change with
  | lookup l step => exact step.consistent c
  | table base count shift _ =>
    have emptied := (noRecords_step s.lookup).consistent c
    exact ⟨emptied.keys, emptied.charges, emptied.pins⟩
  | restart => exact empty_consistent rfl rfl rfl
  | fault k f _ => cases k <;> exact c
  | _ => exact c

/-! ### Buffers, lists and counts -/

/-- The places of every block, in the terms of the changes. -/
structure BuffersBounded (s : State) : Prop where
  ports : ∀ n, portBounded (s.ports.get n)
  settle : ∀ n, (s.settle.get n).entries.length ≤ 12
  headTime : ∀ n, Safety.headTimeBounded (s.headTime.get n) = true
  context : ∀ n, Safety.contextBounded (s.ctx.get n) (s.settings.get n) = true
  decimation : ∀ n, Safety.decimationBounded (s.report.decimation.get n) = true
  faults : ∀ k, faultsKept k (s.faultRecord k)
  uplink : uplinkBounded s.uplink
  capture : captureBounded s.capture
  lookup : Safety.lookupBounded s.lookup = true
  spill : Safety.spillBounded s.spill = true
  owed : s.mem.owed ≤ 8
  lockUp : s.time.lockUp ≤ 1048576

theorem allHeads_all (p : Head → Bool) : allHeads.all p = true ↔ ∀ n, p n = true := by
  simp only [allHeads, List.all_cons, List.all_nil, Bool.and_true, Bool.and_eq_true]
  exact ⟨fun ⟨h0, h1, h2, h3⟩ n => by cases n <;> assumption, fun h => ⟨h _, h _, h _, h _⟩⟩

theorem headBuffersBounded_iff (s : State) (n : Head) : Safety.headBuffersBounded s n = true ↔
    portBounded (s.ports.get n) ∧ (s.settle.get n).entries.length ≤ 12 ∧ Safety.headTimeBounded (s.headTime.get n) = true ∧
    Safety.contextBounded (s.ctx.get n) (s.settings.get n) = true ∧
    Safety.decimationBounded (s.report.decimation.get n) = true ∧ Safety.faultsLegal 1 8 (s.headFaults.get n) = true := by
  simp only [Safety.headBuffersBounded, portBounded, Bool.and_eq_true, decide_eq_true_eq, and_assoc]

theorem buffersBounded_iff (s : State) : Safety.buffersBounded s = true ↔ BuffersBounded s := by
  simp only [Safety.buffersBounded, Bool.and_eq_true, allHeads_all, headBuffersBounded_iff, decide_eq_true_eq]
  constructor
  · rintro ⟨⟨⟨⟨⟨⟨⟨⟨⟨⟨⟨heads, forward⟩, requests⟩, bad⟩, tag⟩, writeback⟩, number⟩, lookup⟩, spill⟩, owed⟩, lockUp⟩, part⟩
    exact ⟨fun n => (heads n).1, fun n => (heads n).2.1, fun n => (heads n).2.2.1, fun n => (heads n).2.2.2.1,
      fun n => (heads n).2.2.2.2.1, fun | none => part | some n => (heads n).2.2.2.2.2, ⟨forward, requests, bad, tag⟩,
      ⟨writeback, number⟩, lookup, spill, owed, lockUp⟩
  · intro b
    exact ⟨⟨⟨⟨⟨⟨⟨⟨⟨⟨⟨fun n => ⟨b.ports n, b.settle n, b.headTime n, b.context n, b.decimation n, b.faults (some n)⟩,
      b.uplink.1⟩, b.uplink.2.1⟩, b.uplink.2.2.1⟩, b.uplink.2.2.2⟩, b.capture.1⟩, b.capture.2⟩, b.lookup⟩, b.spill⟩, b.owed⟩,
      b.lockUp⟩, b.faults none⟩

theorem emptyFaults_kept (k : Option Head) : faultsKept k FaultRecord.empty := by
  cases k <;> exact (faultsLegal_iff ..).2 (by simp [FaultRecord.empty])

theorem resetContext_bounded {t : TrackSettings} (h : t.coastLimit ≤ 255 ∧ t.searchDwell ≤ 16 ∧ t.silenceLimit ≤ 255) :
    Safety.contextBounded Context.reset t = true := by
  rw [contextBounded_iff]
  exact ⟨Nat.zero_le _, Nat.zero_le _, Nat.zero_le _, nofun, h⟩

theorem reset_buffersBounded : BuffersBounded State.reset where
  ports n := by cases n <;> exact ⟨by decide, by decide, by decide⟩
  settle n := by cases n <;> decide
  headTime n := by cases n <;> decide
  context n := by cases n <;> decide
  decimation n := by cases n <;> decide
  faults k := by
    rcases k with _ | n
    · exact emptyFaults_kept none
    · cases n <;> exact emptyFaults_kept (some .h0)
  uplink := ⟨by decide, by decide, by decide, by decide⟩
  capture := by unfold captureBounded; decide
  lookup := noRecords_bounded rfl nofun (by decide)
  spill := by decide
  owed := by decide
  lockUp := by decide

theorem paramSettings_context {c : Context} {t : TrackSettings} (p : List Byte) (h : Safety.contextBounded c t = true) :
    Safety.contextBounded c (paramSettings p) = true := by
  have coast := (within_iff ..).1 (clampNat_within (lo := 1) (hi := 255) (by decide) (natAt 12 1 p))
  have dwell := (within_iff ..).1 (clampNat_within (lo := 1) (hi := 16) (by decide) (natAt 17 1 p))
  have silence := (within_iff ..).1 (clampNat_within (lo := 1) (hi := 255) (by decide) (natAt 24 1 p))
  rw [contextBounded_iff] at h ⊢
  exact ⟨h.1, h.2.1, h.2.2.1, h.2.2.2.1, coast.2, dwell.2, silence.2⟩

theorem faultRecord_setFault (s : State) (k j : Option Head) (f : FaultRecord) :
    (s.setFault k f).faultRecord j = if j = k then f else s.faultRecord j := by
  rcases k with _ | n <;> rcases j with _ | m
  · rfl
  · rfl
  · rfl
  · simp [State.setFault, State.faultRecord, State.setHeadFault, PerHead.get_set]

theorem beginEpoch_headTime (s : State) (n : Head) : s.beginEpoch.headTime.get n =
    (s.headTime.get n).epoch ((s.time.pendingSync.map fun c => c.phases.get n).getD (s.headTime.get n).phase)
      ((s.time.pendingSync.map SyncConfig.period).getD s.time.period) (indexAfter s.time.syncIndex) s.time.nextEpoch := by
  cases n <;> rfl

theorem change_keeps_buffersBounded {s t : State} (change : Change s t) (b : BuffersBounded s) : BuffersBounded t := by
  cases change with
  | fault k f step =>
    have faults : ∀ j, faultsKept j ((s.setFault k f).faultRecord j) := fun j => by
      rw [faultRecord_setFault]
      split
      case isTrue e => subst e; exact step (b.faults j)
      case isFalse => exact b.faults j
    cases k <;> exact { b with faults := faults }
  | context c step => exact { b with context := fun n => step n (b.context n) }
  | settings n p =>
    refine { b with context := fun m => ?_ }
    rw [State.setSettings_settings, State.setSettings_ctx, PerHead.get_set]
    split
    · exact paramSettings_context p (b.context m)
    · exact b.context m
  | lookup l step => exact { b with lookup := step.bounded b.lookup }
  | table base count shift _ =>
    exact { b with lookup := noRecords_bounded rfl ((lookupBounded_iff _).1 b.lookup).2.2.1 (Nat.succ_pos 31) }
  | settle q step => exact { b with settle := fun n => step n (b.settle n) }
  | capture c step => exact { b with capture := step b.capture }
  | spill sp step => exact { b with spill := step.bounded b.spill }
  | ring base _ _ =>
    have spill := (spillBounded_iff _).1 b.spill
    exact { b with spill := (spillBounded_iff _).2 ⟨Nat.zero_le _, spill.2.1, spill.2.2.1, Nat.succ_pos 511, Nat.succ_pos 511⟩ }
  | time t step => exact { b with lockUp := step.lockUp b.lockUp }
  | headTime q step => exact { b with headTime := fun n => (step n).bounded (b.headTime n) }
  | epoch =>
    refine { b with headTime := fun n => ?_ }
    rw [beginEpoch_headTime]
    exact b.headTime n
  | mem m step => exact { b with owed := step.owed b.owed }
  | report r step => exact { b with decimation := fun n => (step n).bounded (b.decimation n) }
  | ports p step => exact { b with ports := fun n => step n (b.ports n) }
  | uplink u step => exact { b with uplink := step b.uplink }
  | restart =>
    exact {
      ports := fun n => by
        have port := b.ports n
        simp only [State.softReset, PerHead.get_map]
        exact ⟨Nat.zero_le _, Nat.zero_le _, Nat.succ_pos 255⟩
      settle := fun n => by simp [State.softReset, SettleQueue.empty]
      headTime := fun n => by
        have time := (headTimeBounded_iff _).1 (b.headTime n)
        simp only [State.softReset, PerHead.get_map]
        exact (headTimeBounded_iff _).2 ⟨time.1, time.2.1, nofun⟩
      context := fun n => by
        simp only [State.softReset, PerHead.get_map]
        exact resetContext_bounded ((contextBounded_iff ..).1 (b.context n)).2.2.2.2
      decimation := fun n => by
        have decimation := (decimationBounded_iff _).1 (b.decimation n)
        simp only [State.softReset, Report.restart, PerHead.get_map]
        exact (decimationBounded_iff _).2 ⟨decimation.1, decimation.1, Nat.zero_le _⟩
      faults := fun k => by
        rcases k with _ | n
        · exact emptyFaults_kept none
        · cases n <;> exact emptyFaults_kept (some .h0)
      uplink := ⟨Nat.zero_le _, Nat.zero_le _, Nat.zero_le _, Nat.succ_pos 255⟩
      capture := b.capture
      lookup := noRecords_bounded rfl nofun (Nat.succ_pos 31)
      spill := by
        have spill := (spillBounded_iff _).1 b.spill
        exact (spillBounded_iff _).2 ⟨spill.1, Nat.zero_le _, Nat.zero_le _, spill.2.2.2⟩
      owed := b.owed
      lockUp := b.lockUp }
  | _ => exact { b with }

/-- Settles O5: each change keeps the places of its block, and a tick holds the lock-up count at 2^20. -/
theorem stepKeepsBuffersBounded : Obligations.StepKeepsBuffersBounded := by
  intro s t hs h
  rw [buffersBounded_iff] at hs ⊢
  refine step_keeps (P := BuffersBounded) (fun _ _ => change_keeps_buffersBounded)
    (fun _ _ _ => { reset_buffersBounded with }) (fun _ _ _ b => { b with }) (fun s b => { b with lockUp := ?_ }) hs h
  simp only [State.tick, TimeBase.tick]
  split
  · exact Nat.min_le_left _ _
  · exact b.lockUp

end Sys2Proof.Proofs
end

section
/-! PROOFS. Invariants, part 8: the settings' ranges, the reset state, the report queue's places, the step and the
timebase. -/

namespace Sys2Proof.Proofs
open Sys2Proof Sys2Proof.Machine

/-! ### Settings -/

/-- Tracking settings within the ranges of R30. -/
def trackLegal (t : TrackSettings) : Prop :=
  Safety.within 1 255 t.threshold = true ∧ Safety.within 1 255 t.coastLimit = true ∧
    Safety.within 0 3 t.settleSelect = true ∧ Safety.within 1 65535 t.searchStep = true ∧
    Safety.within 1 32 t.searchRings = true ∧ Safety.within 1 16 t.searchDwell = true ∧
    Safety.within 1 1000000 t.maxRate = true ∧ Safety.within 1 65535 t.slipLimit = true ∧
    Safety.within 1 255 t.silenceLimit = true

/-- One head's time settings, in epochs of the given period (R113, R118). -/
def timingOfHeadLegal (period : ℕ) (h : HeadTime) : Prop :=
  Safety.within 1 4095 h.window = true ∧ h.phase < 4294967296 ∧ h.effPhase < period

/-- The settings' ranges, block by block. -/
structure SettingsLegal (s : State) : Prop where
  measure : ∀ n, Safety.measureLegal (s.measure.get n) = true
  track : ∀ n, trackLegal (s.settings.get n)
  decimation : ∀ n, decimationLegal (s.report.decimation.get n)
  headTime : ∀ n, timingOfHeadLegal s.time.period (s.headTime.get n)
  timing : Safety.timingLegal s.mem.timing = true
  interval : Safety.within 1 64 s.mem.refreshInterval = true
  period : Safety.within 20000 1000000 s.time.period = true
  pendingSync : ∀ c ∈ s.time.pendingSync, Safety.syncLegal c = true
  syncIndex : s.time.syncIndex < 65536
  table : Safety.tableLegal s.lookup.base s.lookup.bucketCount s.lookup.shift = true
  inHand : ∀ base count shift, s.mgmt.inHand.map InHand.work = some (.tableConfig base count shift) →
    Safety.tableLegal base count shift = true
  ring : s.spill.base % 32768 = 0 ∧ s.spill.base + 32768 ≤ 67108864

theorem headSettingsLegal_iff (s : State) (n : Head) : Safety.headSettingsLegal s n = true ↔
    Safety.measureLegal (s.measure.get n) = true ∧ trackLegal (s.settings.get n) ∧
    decimationLegal (s.report.decimation.get n) ∧ timingOfHeadLegal s.time.period (s.headTime.get n) := by
  simp [Safety.headSettingsLegal, trackLegal, decimationLegal, timingOfHeadLegal, within_iff, and_assoc]

theorem tablesLegal_iff (s : State) : Safety.tablesLegal s = true ↔
    Safety.tableLegal s.lookup.base s.lookup.bucketCount s.lookup.shift = true ∧
    ∀ base count shift, s.mgmt.inHand.map InHand.work = some (.tableConfig base count shift) →
      Safety.tableLegal base count shift = true := by
  rw [Safety.tablesLegal, Bool.and_eq_true]
  refine and_congr_right fun _ => ?_
  split
  case h_1 base count shift e => simp [e]
  case h_2 other => exact ⟨fun _ base count shift e => absurd e (other base count shift), fun _ => rfl⟩

theorem settingsLegal_iff (s : State) : Safety.settingsLegal s = true ↔ SettingsLegal s := by
  simp only [Safety.settingsLegal, Bool.and_eq_true, allHeads_all, headSettingsLegal_iff, tablesLegal_iff, decide_eq_true_eq,
    beq_iff_eq, Option.all_eq_true, ← Option.mem_def]
  constructor
  · rintro ⟨⟨⟨⟨⟨⟨⟨⟨heads, timing⟩, interval⟩, period⟩, pending⟩, index⟩, table, inHand⟩, aligned⟩, below⟩
    exact ⟨fun n => (heads n).1, fun n => (heads n).2.1, fun n => (heads n).2.2.1, fun n => (heads n).2.2.2, timing, interval,
      period, pending, index, table, inHand, aligned, below⟩
  · intro l
    exact ⟨⟨⟨⟨⟨⟨⟨⟨fun n => ⟨l.measure n, l.track n, l.decimation n, l.headTime n⟩, l.timing⟩, l.interval⟩, l.period⟩,
      l.pendingSync⟩, l.syncIndex⟩, l.table, l.inHand⟩, l.ring.1⟩, l.ring.2⟩

theorem paramSettings_legal (p : List Byte) : trackLegal (paramSettings p) :=
  ⟨clampNat_within (by decide) _, clampNat_within (by decide) _, clampNat_within (by decide) _,
    clampNat_within (by decide) _, clampNat_within (by decide) _, clampNat_within (by decide) _,
    clampNat_within (by decide) _, clampNat_within (by decide) _, clampNat_within (by decide) _⟩

theorem syncLegal_iff (c : SyncConfig) : Safety.syncLegal c = true ↔
    Safety.within 20000 1000000 c.period = true ∧ ∀ n, c.phases.get n < 4294967296 := by
  simp only [Safety.syncLegal, Bool.and_eq_true, PerHead.toList, List.all_cons, List.all_nil, Bool.and_true, decide_eq_true_eq]
  refine and_congr_right fun _ => ⟨fun ⟨h0, h1, h2, h3⟩ n => by cases n <;> assumption, fun h => ⟨h .h0, h .h1, h .h2, h .h3⟩⟩

theorem paramSync_legal (p : List Byte) : Safety.syncLegal (paramSync p) = true := by
  rw [syncLegal_iff]
  exact ⟨clampNat_within (by decide) _, fun n => by cases n <;> exact natAt_lt _ 4 p⟩

/-- The period of an epoch: the pending configuration's, where there is one. -/
theorem epochPeriod_legal {s : State} (l : SettingsLegal s) :
    Safety.within 20000 1000000 ((s.time.pendingSync.map SyncConfig.period).getD s.time.period) = true := by
  cases e : s.time.pendingSync with
  | none => exact l.period
  | some c => exact ((syncLegal_iff c).1 (l.pendingSync c e)).1

theorem epochPhase_lt {s : State} (l : SettingsLegal s) (n : Head) :
    (s.time.pendingSync.map fun c => c.phases.get n).getD (s.headTime.get n).phase < 4294967296 := by
  cases e : s.time.pendingSync with
  | none => exact (l.headTime n).2.1
  | some c => exact ((syncLegal_iff c).1 (l.pendingSync c e)).2 n

theorem change_keeps_settingsLegal {s t : State} (change : Change s t) (l : SettingsLegal s) : SettingsLegal t := by
  cases change with
  | fault k f _ => cases k <;> exact { l with }
  | measure m step => exact { l with measure := fun n => step n (l.measure n) }
  | settings n p =>
    refine { l with track := fun m => ?_ }
    rw [State.setSettings_settings, PerHead.get_set]
    split
    · exact paramSettings_legal p
    · exact l.track m
  | lookup t step =>
    refine { l with table := ?_ }
    show Safety.tableLegal t.base t.bucketCount t.shift = true
    rw [step.base, step.bucketCount, step.shift]
    exact l.table
  | table base count shift inHand => exact { l with table := l.inHand base count shift inHand }
  | spill sp step =>
    refine { l with ring := ?_ }
    show sp.base % 32768 = 0 ∧ sp.base + 32768 ≤ 67108864
    rw [step.base]
    exact l.ring
  | ring base aligned below => exact { l with ring := ⟨aligned, show base + 32768 ≤ 67108864 by omega⟩ }
  | time u step =>
    refine { l with
      headTime := fun n => ?_, period := ?_, pendingSync := fun c hc => ?_, syncIndex := step.syncIndex ▸ l.syncIndex }
    · exact step.period ▸ l.headTime n
    · exact step.period ▸ l.period
    · rcases step.pendingSync with same | ⟨p, new⟩
      · exact l.pendingSync c (same ▸ hc)
      · obtain rfl : paramSync p = c := Option.some.inj (new.symm.trans hc)
        exact paramSync_legal p
  | headTime q step =>
    refine { l with headTime := fun n => ?_ }
    obtain ⟨window, phase, effPhase⟩ := l.headTime n
    exact ⟨(step n).window window, (step n).phase ▸ phase, (step n).effPhase ▸ effPhase⟩
  | epoch =>
    refine { l with headTime := fun n => ?_, period := epochPeriod_legal l, pendingSync := nofun, syncIndex := ?_ }
    · rw [beginEpoch_headTime]
      have pos := ((within_iff ..).1 (epochPeriod_legal l)).1
      exact ⟨(l.headTime n).1, epochPhase_lt l n, Nat.mod_lt _ (by omega)⟩
    · exact Nat.mod_lt _ (by decide)
  | mem m step => exact { l with timing := step.timing l.timing, interval := step.interval l.interval }
  | report r step => exact { l with decimation := fun n => (step n).legal (l.decimation n) }
  | mgmt m step =>
    refine { l with inHand := fun base count shift e => ?_ }
    rcases step base count shift e with same | legal
    · exact l.inHand base count shift (same ▸ e)
    · exact legal
  | restart =>
    exact { l with
      headTime := fun n => by
        simp only [State.softReset, PerHead.get_map]
        exact l.headTime n
      decimation := fun n => by
        have configured := (l.decimation n).1
        simp only [State.softReset, Report.restart, PerHead.get_map]
        exact ⟨configured, configured, le_rfl⟩ }
  | _ => exact { l with }

theorem reset_settingsLegal : SettingsLegal State.reset where
  measure n := by
    have comp : Safety.compLegal (List.replicate 256 0) = true := 
      (compLegal_iff _).2 ⟨List.length_replicate, fun e he => by rw [List.eq_of_mem_replicate he]; decide⟩
    have legal : Safety.measureLegal Measure.reset = true := by
      rw [measureLegal_iff]
      exact ⟨comp, comp, by decide, by decide, by decide, by decide, by decide, by decide, by decide, by decide⟩
    cases n <;> exact legal
  track n := by cases n <;> exact by unfold trackLegal; decide
  decimation n := by cases n <;> exact by unfold decimationLegal; decide
  headTime n := by cases n <;> exact by unfold timingOfHeadLegal; decide
  timing := by decide
  interval := by decide
  period := by decide
  pendingSync := nofun
  syncIndex := by decide
  table := by decide
  inHand := nofun
  ring := by decide

/-- Settles O6: each change keeps the ranges of its block, the values a request carries being clamped or tested. -/
theorem stepKeepsSettingsLegal : Obligations.StepKeepsSettingsLegal := by
  intro s t hs h
  rw [settingsLegal_iff] at hs ⊢
  exact step_keeps (P := SettingsLegal) (fun _ _ => change_keeps_settingsLegal) (fun _ _ _ => { reset_settingsLegal with })
    (fun _ _ _ l => { l with }) (fun _ l => { l with }) hs h

/-! ### The reset state -/

/-- Settles O2: the parts of a safe state, each from its own invariant's reset. -/
theorem resetIsSafe : Obligations.ResetIsSafe := by
  have memory : Safety.memoryCanonical State.reset = true := State.reset_wf
  have report : Safety.reportBounded State.reset = true := rfl
  have buffers := (buffersBounded_iff _).2 reset_buffersBounded
  have settings := (settingsLegal_iff _).2 reset_settingsLegal
  have reference : Safety.referenceLegal State.reset = true := rfl
  have cache : Safety.cacheConsistent State.reset = true := (cacheConsistent_iff _).2 (empty_consistent rfl rfl rfl)
  simp only [Obligations.ResetIsSafe, Safety.safe, memory, report, buffers, settings, reference, cache, Bool.and_self]

/-! ### The report queue -/

/-- Forty Position frames queue, and the frame held to enter is a Position frame too. Answers alone are ever held, but the
statement's hypothesis does not say so. -/
def heldPosition : State :=
  { State.reset with
    pending := [.heldAnswerEntry]
    report := { Report.reset with queue := List.replicate 40 ⟨.position, []⟩ }
    mgmt := ⟨none, some ⟨.position, []⟩⟩ }

/-- The state once the held frame has entered. -/
def heldPositionEntered : State := { heldPosition with pending := [], mgmt := ⟨none, none⟩ }.enqueue ⟨.position, []⟩

theorem heldPosition_step : step heldPosition = .next heldPositionEntered := rfl

theorem heldPositionEntered_posCount : heldPositionEntered.report.posCount = 41 := by
  rw [Report.posCount, heldPositionEntered, State.enqueue_queue]
  rfl

/-- Refutes O4: HELD_ANSWER_ENTRY lets the held frame enter whatever its kind, here as the 41st Position frame. -/
theorem not_stepKeepsReportBounded : ¬ Obligations.StepKeepsReportBounded := by
  intro h
  have before : Safety.reportBounded heldPosition = true := rfl
  have after := h heldPosition heldPositionEntered before heldPosition_step
  simp [Safety.reportBounded, heldPositionEntered_posCount, Config.positionPlaces] at after

/-! ### The step and the timebase -/

/-- Settles O1: by the definition of a step, a free draw picking one of the steps due. -/
theorem stepRunsFrontCommand : Obligations.StepRunsFrontCommand := by
  refine ⟨fun c rest s e => by simp only [step, e], fun s e => ⟨fun due => ?_, fun c due => ?_, fun several => ?_⟩⟩
  · simp only [step, e, State.idle, due, State.tick]
  · simp only [step, e, State.idle, due]
  · match due : s.due, several with
    | c :: d :: rest, _ =>
      exact ⟨_, getD_mod_mem (c :: d :: rest) (Config.freeChoice s.freeCount) (Nat.succ_pos _),
        by simp only [step, e, State.idle, due]; rfl⟩

/-- A change moves neither the timebase nor the queue of commands. -/
theorem change_frame {s t : State} (h : Change s t) : t.time.timebase = s.time.timebase ∧ t.pending = s.pending := by
  cases h with
  | time u step => exact ⟨step.timebase, rfl⟩
  | fault k f _ => cases k <;> exact ⟨rfl, rfl⟩
  | _ => exact ⟨rfl, rfl⟩

theorem changes_frame {s t : State} (h : Changes s t) : t.time.timebase = s.time.timebase ∧ t.pending = s.pending :=
  changes_keep (P := fun t => t.time.timebase = s.time.timebase ∧ t.pending = s.pending)
    (fun _ _ change same => ⟨(change_frame change).1.trans same.1, (change_frame change).2.trans same.2⟩) h ⟨rfl, rfl⟩

theorem exec_pending {c : Instr} {s t : State} (h : exec c s = .next t) : t.pending = s.pending := by
  by_cases isReset : c = .hardReset
  · subst isReset
    rw [exec_hardReset h]
  · exact (changes_frame (exec_changes isReset h)).2

theorem mem_dueIf {p : Bool} {c d : Instr} (h : d ∈ dueIf p c) : d = c := by
  unfold dueIf at h
  split at h
  · exact List.mem_singleton.1 h
  · cases h

theorem requestRow_ne_hardReset (p : List Byte) : requestRow p ≠ .hardReset := by
  unfold requestRow
  repeat' split
  all_goals nofun

theorem completionOf_ne_hardReset (a : Access) : completionOf a ≠ .hardReset := by
  unfold completionOf
  split <;> nofun

/-- HARD_RESET comes from outside; it is no step of the part's own. -/
theorem hardReset_not_due (s : State) : Instr.hardReset ∉ s.due := by
  have notIf {p : Bool} {c : Instr} (ne : Instr.hardReset ≠ c) : Instr.hardReset ∉ dueIf p c := fun h => ne (mem_dueIf h)
  simp only [State.due, List.mem_append, not_or]
  refine ⟨⟨⟨?time, ?management⟩, ?memory⟩, ?arbiter⟩
  case time => simp [State.timeDue, notIf]
  case management =>
    unfold State.managementDue
    split
    case h_1 =>
      split
      · simpa using (requestRow_ne_hardReset _).symm
      · exact List.not_mem_nil
    all_goals simp [notIf]
  case memory =>
    have completion : Instr.hardReset ∉ s.completionDue := by
      unfold State.completionDue
      split
      case h_1 r _ => exact notIf (completionOf_ne_hardReset r.access).symm
      case h_2 => exact List.not_mem_nil
    simp [State.memoryDue, notIf, completion]
  case arbiter => simp [State.arbiterDue, notIf]

theorem tick_eq (t : TimeBase) : t.tick = { t with
    timebase := if t.timebase < 18446744073709551615 then t.timebase + 1 else 18446744073709551615
    lockUp := if t.refState = .acquiring ∧ t.present = true then (if t.lockUp < 1048576 then t.lockUp + 1 else 1048576)
      else t.lockUp } := by
  have capped (top v : ℕ) : min top (v + 1) = if v < top then v + 1 else top := by split <;> omega
  simp only [TimeBase.tick, Config.timebaseMax, Config.lockUpTicks, capped, Bool.and_eq_true, decide_eq_true_eq]

/-- Settles O9: every command but HARD_RESET is a run of changes, none of which moves the timebase or the queue. -/
theorem timebaseCountsTicks : Obligations.TimebaseCountsTicks := by
  refine ⟨fun s t top notReset h => ?_, fun s t h => ?_, fun s queue due => ?_, fun c s t h => exec_pending h⟩
  · rcases step_cases h with rfl | ⟨c, p, k, front, run⟩
    · have tick : s.tick.time.timebase = min 18446744073709551615 (s.time.timebase + 1) := rfl
      omega
    · have isReset : c ≠ .hardReset := by
        rintro rfl
        rcases front with queue | ⟨-, -, due⟩
        · exact notReset _ queue
        · exact hardReset_not_due s due
      have same : t.time.timebase = s.time.timebase := (changes_frame (exec_changes isReset run)).1
      omega
  · rw [exec_hardReset h]
    rfl
  · rw [(stepRunsFrontCommand.2 s queue).1 due, tick_eq]

end Sys2Proof.Proofs
end

section
/-! PROOFS. Layouts and places: what fields read back, where table memory's bytes lie and what an access costs, the nearest
point, velocities, and what an idle transmitter chooses. -/

namespace Sys2Proof.Proofs
open Sys2Proof Sys2Proof.Machine

/-! ### Fields of a structure -/

theorem natAt_cons_zero (b : Byte) (bs : List Byte) : natAt 0 1 (b :: bs) = b.toNat := by
  simp [natAt, field, leNat]

theorem natAt_cons {off : ℕ} (h : 0 < off) (len : ℕ) (b : Byte) (bs : List Byte) :
    natAt off len (b :: bs) = natAt (off - 1) len bs := by
  obtain ⟨k, rfl⟩ := Nat.exists_eq_succ_of_ne_zero h.ne'
  rfl

theorem intAt_cons {off : ℕ} (h : 0 < off) (len : ℕ) (b : Byte) (bs : List Byte) :
    intAt off len (b :: bs) = intAt (off - 1) len bs := by
  obtain ⟨k, rfl⟩ := Nat.exists_eq_succ_of_ne_zero h.ne'
  rfl

theorem natAt_append {off : ℕ} {a : List Byte} (h : a.length ≤ off) (len : ℕ) (b : List Byte) :
    natAt off len (a ++ b) = natAt (off - a.length) len b := by rw [natAt, natAt, field_append_right off len a b h]

theorem intAt_append {off : ℕ} {a : List Byte} (h : a.length ≤ off) (len : ℕ) (b : List Byte) :
    intAt off len (a ++ b) = intAt (off - a.length) len b := by rw [intAt, intAt, field_append_right off len a b h]

theorem natAt_natLE_append {k v : ℕ} (h : v < 256 ^ k) (b : List Byte) : natAt 0 k (natLE k v ++ b) = v := by
  rw [natAt, field_append_left k _ _ (natLE_length k v), leNat_natLE, Nat.mod_eq_of_lt h]

theorem natAt_natLE {k v : ℕ} (h : v < 256 ^ k) : natAt 0 k (natLE k v) = v := by
  simpa using natAt_natLE_append h []

/-- A signed value fits k bytes (R153). -/
def Fits (k : ℕ) (v : Int) : Prop := -(256 ^ k : ℕ) ≤ 2 * v ∧ 2 * v < (256 ^ k : ℕ)

theorem intAt_intLE_append {k : ℕ} {v : Int} (h : Fits k v) (b : List Byte) : intAt 0 k (intLE k v ++ b) = v := by
  rw [intAt, field_append_left k _ _ (intLE_length k v), leInt_intLE k v h.1 h.2]

theorem intAt_intLE {k : ℕ} {v : Int} (h : Fits k v) : intAt 0 k (intLE k v) = v := by
  simpa using intAt_intLE_append h []

theorem byteOf_toNat {v : ℕ} (h : v < 256) : (byteOf v).toNat = v := by
  rw [byteOf, BitVec.toNat_ofNat]
  exact Nat.mod_eq_of_lt h

/-! ### Frames -/

/-- A built frame is its body and the body's check. -/
theorem buildFrame_eq (kind dest src flags : ℕ) (tag : Byte) (payload : List Byte) :
    ∃ body, body = byteOf kind :: byteOf dest :: byteOf src :: tag :: byteOf flags :: byteOf payload.length :: payload ∧
      buildFrame kind dest src tag flags payload = body ++ natLE 2 (crc body).toNat := ⟨_, rfl, rfl⟩

/-- Settles O19: the header's bytes stand in front of the payload, and the check behind it. -/
theorem builtFramesAreGood : Obligations.BuiltFramesAreGood := by
  intro kind dest src flags tag payload kindLt destLt srcLt flagsLt lengthLe f
  obtain ⟨body, hbody, built⟩ := buildFrame_eq kind dest src flags tag payload
  have bodyLength : body.length = 6 + payload.length := by simp [hbody]; omega
  have hf : f = body ++ natLE 2 (crc body).toNat := built
  have length : f.length = 8 + payload.length := by rw [hf, List.length_append, bodyLength, natLE_length]; omega
  have lengthField : frameLength f = payload.length := by
    simp [frameLength, hf, hbody, natAt_cons, natAt_cons_zero, byteOf_toNat (show payload.length < 256 by omega)]
  have check : natAt (6 + payload.length) 2 f = (crc (f.take (6 + payload.length))).toNat := by
    rw [hf, ← bodyLength, List.take_left, natAt_append le_rfl, Nat.sub_self, natAt_natLE (crc body).isLt]
  refine ⟨?good, length, ?kind, ?dest, ?src, ?tag, ?flags, lengthField, ?payload⟩
  case good =>
    rw [Bool.eq_false_iff, ne_eq, frameBad_iff, show natAt 5 1 f = payload.length from lengthField, check, length]
    omega
  case payload =>
    rw [framePayload, lengthField, hf, hbody]
    simp [field]
  all_goals simp [frameKind, frameDest, frameTag, frameFlags, natAt_cons, natAt_cons_zero, byteOf_toNat, *]

/-! ### Samples -/

theorem sampleLegal_iff (r : RawSample) : Safety.sampleLegal r = true ↔
    r.index < 65536 ∧ r.azimuth < 16777216 ∧ (-8388608 ≤ r.elevation ∧ r.elevation ≤ 8388607) ∧
    (-2147483648 ≤ r.count ∧ r.count ≤ 2147483647) ∧ r.adm < 4294967296 ∧ (-32768 ≤ r.psdX ∧ r.psdX ≤ 32767) ∧
    (-32768 ≤ r.psdY ∧ r.psdY ≤ 32767) ∧ r.intensity < 256 := by
  simp [Safety.sampleLegal, and_assoc]

/-- The two status bits that are read, whatever the six others hold. -/
theorem statusBits (valid fault : Bool) (unread : ℕ) :
    let status := (if valid then 1 else 0) + (if fault then 2 else 0) + 4 * (unread % 64)
    status < 256 ∧ bitAt 0 status = valid ∧ bitAt 1 status = fault := by
  have below : unread % 64 < 64 := Nat.mod_lt _ (by decide)
  refine ⟨by cases valid <;> cases fault <;> simp <;> omega, ?_, ?_⟩ <;>
    cases valid <;> cases fault <;> simp [bitAt, Nat.testBit, Nat.shiftRight_eq_div_pow] <;> omega

/-- Settles O20: each field of the payload stands where the decoder reads it. -/
theorem samplePayloadReadsBack : Obligations.SamplePayloadReadsBack := by
  intro r unread legal
  obtain ⟨index, azimuth, elevation, count, adm, psdX, psdY, intensity⟩ := (sampleLegal_iff r).1 legal
  have elevation : Fits 3 r.elevation := ⟨by norm_num; omega, by norm_num; omega⟩
  have count : Fits 4 r.count := ⟨by norm_num; omega, by norm_num; omega⟩
  have psdX : Fits 2 r.psdX := ⟨by norm_num; omega, by norm_num; omega⟩
  have psdY : Fits 2 r.psdY := ⟨by norm_num; omega, by norm_num; omega⟩
  obtain ⟨statusLt, valid, fault⟩ := statusBits r.admValid r.motorFault unread
  refine ⟨by simp [Safety.samplePayload], ?_⟩
  unfold Safety.samplePayload
  generalize (if r.admValid then 1 else 0) + (if r.motorFault then 2 else 0) + 4 * (unread % 64) = status at *
  simp [decodeSample, natAt_append, natAt_natLE_append, natAt_natLE, intAt_append, intAt_intLE_append, *]

/-! ### Request parameters -/

theorem signedVec_fits {k : ℕ} (hk : 0 < k) {v : Vec3} (h : Safety.signedVec (8 * k) v = true) :
    Fits k v.x ∧ Fits k v.y ∧ Fits k v.z := by
  have double : 2 * 2 ^ (8 * k - 1) = 256 ^ k := by
    rw [← pow_succ', Nat.sub_add_cancel (by omega), pow_mul]
    norm_num
  have fits {c : Int} (b : -((2 ^ (8 * k - 1) : ℕ) : Int) ≤ c ∧ c < ((2 ^ (8 * k - 1) : ℕ) : Int)) : Fits k c := by
    rw [Fits, ← double]
    omega
  obtain ⟨x, y, z⟩ := (signedVec_iff _ v).1 h
  exact ⟨fits x, fits y, fits z⟩

/-- Three signed values in front of a structure read back. -/
theorem paramVec_append {v : Vec3} (h : Safety.signedVec 32 v = true) (b : List Byte) : paramVec (vecLE 4 v ++ b) 0 = v := by
  obtain ⟨x, y, z⟩ := signedVec_fits (k := 4) (by decide) h
  simp [paramVec, vecLE, intAt_append, intAt_intLE_append, x, y, z]

theorem paramVec_skip {off : ℕ} {a : List Byte} (h : a.length ≤ off) (b : List Byte) :
    paramVec (a ++ b) off = paramVec b (off - a.length) := by
  simp only [paramVec, intAt_append h, intAt_append (h.trans (Nat.le_add_right off 4)),
    intAt_append (h.trans (Nat.le_add_right off 8)), Nat.sub_add_comm h]

theorem vecLE_length (k : ℕ) (v : Vec3) : (vecLE k v).length = 3 * k := by
  simp only [vecLE, List.length_append, intLE_length]
  omega

theorem clampNat_eq {lo hi : ℕ} (h : lo ≤ hi) (v : ℕ) : clampNat lo hi v = max lo (min hi v) := by
  unfold clampNat
  split_ifs <;> omega

/-- Entry i of entries laid out one after the other, two bytes each. -/
theorem intAt_entries {es : List Int} (fits : ∀ e ∈ es, Fits 2 e) {i : ℕ} (h : i < es.length) :
    intAt (2 * i) 2 (es.flatMap (intLE 2)) = es[i] := by
  induction es generalizing i with
  | nil => cases h
  | cons e es ih =>
    rw [List.flatMap_cons]
    cases i with
    | zero => exact intAt_intLE_append (fits e List.mem_cons_self) _
    | succ i =>
      rw [intAt_append (by rw [intLE_length]; omega), intLE_length, show 2 * (i + 1) - 2 = 2 * i by omega,
        ih (fun e' h' => fits e' (List.mem_cons_of_mem _ h')) (Nat.lt_of_succ_lt_succ h)]
      rfl

theorem entries_length (es : List Int) : (es.flatMap (intLE 2)).length = 2 * es.length := by
  induction es with
  | nil => rfl
  | cons e es ih => simp [ih]; omega

/-- Settles O21: each layout puts a parameter where its reader looks. -/
theorem requestParametersReadBack : Obligations.RequestParametersReadBack := by
  refine ⟨?pose, ?comp, ?sync, ?key, ?aim⟩
  case pose =>
    intro n r v nLt row1 row2 row3 translation p
    have hp : p = [byteOf 10, byteOf n] ++ (vecLE 4 r.row1 ++ (vecLE 4 r.row2 ++ (vecLE 4 r.row3 ++ (vecLE 4 v ++ [])))) := by
      simp [p]
    refine ⟨by simp [lengthAdmitted, hp, vecLE_length], ?_, ?_⟩
    · simp [paramHead, hp, natAt_cons, natAt_cons_zero, byteOf_toNat nLt]
    · rw [paramPose, hp]
      simp only [paramVec_skip, paramVec_append, vecLE_length, List.length_cons, List.length_nil, Nat.reduceAdd, Nat.reduceSub,
        Nat.reduceMul, Nat.reduceLeDiff, row1, row2, row3, translation]
  case comp =>
    intro n axis first es nLt axisLt firstLt some_ most range p
    have fits : ∀ e ∈ es, Fits 2 e := fun e he => by
      have := range e he
      exact ⟨by norm_num; omega, by norm_num; omega⟩
    have length : p.length = 4 + 2 * es.length := by simp [p]; omega
    refine ⟨by simp [lengthAdmitted, length]; omega, ?_, ?_, ?_, ?_⟩
    case refine_4 =>
      refine List.ext_getElem (by simp [paramEntries, length]) fun i h h' => ?_
      simp only [paramEntries, List.getElem_map, List.getElem_range]
      rw [intAt_append (by simp), ← intAt_entries fits h']
      simp
    all_goals simp [paramHead, p, natAt_cons, natAt_cons_zero, byteOf_toNat, nLt, axisLt, firstLt]
  case sync =>
    intro period ph periodLt lt0 lt1 lt2 lt3 p
    refine ⟨by simp [lengthAdmitted, p], ?_⟩
    simp [paramSync, p, natAt_cons, natAt_append, natAt_natLE_append, natAt_natLE, clampNat_eq, *]
  case key =>
    intro kind k kinds signed p
    obtain ⟨x, y, z⟩ := signedVec_fits (k := 2) (by decide) signed
    refine ⟨by rcases kinds with rfl | rfl | rfl <;> simp [lengthAdmitted, p], ?_⟩
    simp [paramKey, p, intAt_cons, intAt_append, intAt_intLE_append, intAt_intLE, *]
  case aim =>
    intro n az el nLt azLt lo hi p
    have fits : Fits 4 el := ⟨by norm_num; omega, by norm_num; omega⟩
    refine ⟨?_, ?_, ?_⟩
    · simp [lengthAdmitted, headModeLength, modeByte, p, natAt_cons, natAt_cons_zero, byteOf_toNat]
    · simp [paramHead, p, natAt_cons, natAt_cons_zero, byteOf_toNat nLt]
    · simp [paramAim, p, natAt_cons, natAt_natLE_append, intAt_cons, intAt_append, intAt_intLE, fits, azLt,
        clampElevation, clampInt_eq]

/-! ### The nearest point -/

/-- Each point that is not DISABLED is beaten by p, or with late set may tie with it. -/
def Beats (b : Vec3) (p : Point) (late : Bool) (ps : List Point) : Prop :=
  ∀ q ∈ ps, q.state ≠ .disabled →
    pointDistance b p < pointDistance b q ∨ pointDistance b p = pointDistance b q ∧ (p.id < q.id ∨ late = true ∧ p.id = q.id)

/-- What the search has chosen after the points of ps. -/
def Chosen (b : Vec3) (ps : List Point) : Option Point → Prop
  | none => ∀ p ∈ ps, p.state = .disabled
  | some p => ∃ before after, ps = before ++ p :: after ∧ p.state ≠ .disabled ∧ Beats b p false before ∧ Beats b p true after

theorem nearer_iff (b : Vec3) (p q : Point) : nearer b p q = true ↔
    pointDistance b p < pointDistance b q ∨ pointDistance b p = pointDistance b q ∧ p.id < q.id := by
  simp [nearer]

/-- The choice between the point chosen before and the next of the list. -/
def nearestStep (b : Vec3) (best : Option Point) (q : Point) : Option Point :=
  if q.state = .disabled then best
  else match best with
    | none => some q
    | some p => if nearer b q p then some q else best

theorem nearestPoint_append (b : Vec3) (ps : List Point) (q : Point) :
    nearestPoint b (ps ++ [q]) = nearestStep b (nearestPoint b ps) q := by
  rw [nearestPoint, List.foldl_append]
  rfl

theorem Beats.append {b : Vec3} {p q : Point} {late : Bool} {ps : List Point} (h : Beats b p late ps)
    (new : Beats b p late [q]) : Beats b p late (ps ++ [q]) := by
  intro r hr
  rcases List.mem_append.1 hr with old | last
  · exact h r old
  · exact new r last

/-- A point that is DISABLED loses to every point. -/
theorem beats_disabled {b : Vec3} (p : Point) {q : Point} (late : Bool) (h : q.state = .disabled) : Beats b p late [q] := by
  intro r hr enabled
  rw [List.mem_singleton] at hr
  exact absurd (hr ▸ h) enabled

/-- A point nearer than p beats strictly what p beats, with a tie or not. -/
theorem Beats.trans {b : Vec3} {p q : Point} {late : Bool} {ps : List Point} (nearer_ : nearer b q p = true)
    (h : Beats b p late ps) : Beats b q false ps := by
  intro r hr enabled
  rw [nearer_iff] at nearer_
  rcases h r hr enabled with less | ⟨eq, less | ⟨-, same⟩⟩ <;> omega

theorem chosen_nearestStep {b : Vec3} {ps : List Point} {best : Option Point} (q : Point) (h : Chosen b ps best) :
    Chosen b (ps ++ [q]) (nearestStep b best q) := by
  unfold nearestStep
  split_ifs with disabled
  · cases best with
    | none => exact fun p hp => (List.mem_append.1 hp).elim (h p) fun last => by rw [List.mem_singleton.1 last, disabled]
    | some p =>
      obtain ⟨before, after, rfl, enabled, beats, beatsLate⟩ := h
      exact ⟨before, after ++ [q], by simp, enabled, beats, beatsLate.append (beats_disabled p true disabled)⟩
  · cases best with
    | none => exact ⟨ps, [], rfl, disabled, fun p hp enabled => absurd (h p hp) enabled, nofun⟩
    | some p =>
      obtain ⟨before, after, rfl, enabled, beats, beatsLate⟩ := h
      dsimp only
      split_ifs with isNearer
      · refine ⟨before ++ p :: after, [], rfl, disabled, fun r hr live => ?_, nofun⟩
        rcases List.mem_append.1 hr with early | late
        · exact beats.trans isNearer r early live
        rcases List.mem_cons.1 late with rfl | late
        · exact ((nearer_iff ..).1 isNearer).imp_right fun ⟨eq, less⟩ => ⟨eq, .inl less⟩
        · exact beatsLate.trans isNearer r late live
      · refine ⟨before, after ++ [q], by simp, enabled, beats, beatsLate.append fun r hr _ => ?_⟩
        rw [List.mem_singleton.1 hr]
        rw [nearer_iff] at isNearer
        simp only [true_and]
        omega

theorem chosen_nearestPoint (b : Vec3) (ps : List Point) : Chosen b ps (nearestPoint b ps) := by
  induction ps using List.reverseRecOn with
  | nil => exact nofun
  | append_singleton ps q ih =>
    rw [nearestPoint_append]
    exact chosen_nearestStep q ih

theorem pointDistance_eq (b : Vec3) (p : Point) : pointDistance b p =
    (b.x - p.nominal.x) ^ 2 + (b.y - p.nominal.y) ^ 2 + (b.z - p.nominal.z) ^ 2 := by
  simp only [pointDistance, squared, deviation]
  ring

/-- Settles O17: the search's choice, point after point, and the test by squares. -/
theorem nearestPointIsNearest : Obligations.NearestPointIsNearest := by
  intro b ps r2
  have distance (p : Point) : pointDistance b p = r2 p := pointDistance_eq b p
  have chosen := chosen_nearestPoint b ps
  refine ⟨⟨fun none_ => ?_, fun disabled => ?_⟩, fun p some_ => ?_, fun p _ => ?_⟩
  · rw [none_] at chosen
    exact chosen
  · cases e : nearestPoint b ps with
    | none => rfl
    | some p =>
      rw [e] at chosen
      obtain ⟨before, after, rfl, enabled, -⟩ := chosen
      exact absurd (disabled p (by simp)) enabled
  · rw [some_] at chosen
    obtain ⟨before, after, split, enabled, beats, beatsLate⟩ := chosen
    simp only [Beats, distance, Bool.false_eq_true, false_and, or_false, true_and, ← Nat.le_iff_lt_or_eq] at beats beatsLate
    exact ⟨before, after, split, enabled, beats, beatsLate⟩
  · rw [inWindow, distance, sq, decide_eq_true_eq]

/-! ### Velocities -/

/-- Settles O25: the remainder of the turn, above half of it less one turn; the clamp; the gap as a remainder. -/
theorem velocityFromLockedPair : Obligations.VelocityFromLockedPair := by
  refine ⟨fun d => ?_, fun d gap mx _ => ?_, fun p q mx => ?_⟩
  · simp only [shortWay, Config.turn]
    split_ifs <;> omega
  · have ordered : -(mx : Int) ≤ mx := by omega
    exact ⟨clampInt_eq ordered _, clampInt_mem ordered _⟩
  · exact ⟨indexGap q.index p.index, Int.toNat_of_nonneg (Int.emod_nonneg _ (by decide)), rfl⟩

/-! ### Transmitters -/

/-- Settles O22: by the cases of each choice. -/
theorem transmittersChoose : Obligations.TransmittersChoose := by
  refine ⟨fun n p busy => ?_, fun n p up idle => ⟨fun f steer => ?_, fun steer f rest forward => ?_, fun steer forward => ?_⟩,
    fun u q busy => ?_, fun u q up idle => ⟨fun f fs forward turn => ?_, fun r rs queue turn => ?_, fun queue forward => ?_⟩⟩
  · rcases busy with down | busy <;> simp [HeadPort.choose, Option.isSome_iff_ne_none, *]
  · simp [HeadPort.choose, up, idle, steer, steerBytes, headCode]
  · simp [HeadPort.choose, up, idle, steer, forward]
  · simp [HeadPort.choose, up, idle, steer, forward]
  · rcases busy with down | busy <;> simp [Uplink.choose, Option.isSome_iff_ne_none, *]
  · rcases q with _ | ⟨r, rs⟩
    · simp [Uplink.choose, up, idle, forward, Uplink.sendForward]
    · have served := turn.resolve_left nofun
      simp [Uplink.choose, up, idle, forward, served, Uplink.sendForward]
  · have report : u.choose q = u.sendReport r := by
      rcases e : u.forward with _ | ⟨f, fs⟩
      · simp [Uplink.choose, up, idle, queue, e]
      · have served := turn.resolve_left (by simp [e])
        simp [Uplink.choose, up, idle, queue, e, served]
    refine ⟨fun tag kind => ?_, fun code kind => ?_⟩
    · simp [report, Uplink.sendReport, reportBytes, tagAfter, kind, ReportKind.code]
    · simp only [List.mem_cons, Prod.mk.injEq, List.not_mem_nil, or_false] at kind
      rcases kind with ⟨kind, rfl⟩ | ⟨kind, rfl⟩ | ⟨kind, rfl⟩ <;>
        simp [report, Uplink.sendReport, reportBytes, tagAfter, kind, ReportKind.code]
  · simp [Uplink.choose, queue, forward]

/-! ### Banks and rows -/

/-- A byte's bank and row. -/
def placeOf (g a : ℕ) : ℕ × ℕ := (bankOf g a, rowOf g a)

/-- Every interleave is a number of rows' bytes. -/
theorem interleave_rows (i : Interleave) : ∃ m, (m = 1 ∨ m = 4 ∨ m = 16 ∨ m = 512) ∧ i.bytes = 2048 * m := by
  cases i
  · exact ⟨1, by decide, rfl⟩
  · exact ⟨4, by decide, rfl⟩
  · exact ⟨16, by decide, rfl⟩
  · exact ⟨512, by decide, rfl⟩

/-- Bank and row depend on the 2,048-byte piece alone: pieces go to a bank m at a time. -/
theorem placeOf_eq (m a : ℕ) :
    placeOf (2048 * m) a = (a / 2048 / m % 4, a / 2048 / (4 * m) * m + a / 2048 % m) := by
  have bank : bankOf (2048 * m) a = a / 2048 / m % 4 := by rw [bankOf, Nat.div_div_eq_div_mul]
  have inner : a % (2048 * m) / 2048 = a / 2048 % m := Nat.mod_mul_right_div_self a 2048 m
  have outer : a / (4 * (2048 * m)) = a / 2048 / (4 * m) := by
    rw [Nat.div_div_eq_div_mul]
    congr 1
    ring
  have row : rowOf (2048 * m) a = a / 2048 / (4 * m) * m + a / 2048 % m := by
    rw [rowOf, bankAddress, outer, ← inner, show a / 2048 / (4 * m) * (2048 * m) = 2048 * (a / 2048 / (4 * m) * m) by ring,
      Nat.mul_add_div (by decide)]
  rw [placeOf, bank, row]

theorem placeOf_congr (i : Interleave) {a b : ℕ} (h : a / 2048 = b / 2048) : placeOf i.bytes a = placeOf i.bytes b := by
  obtain ⟨m, -, rows⟩ := interleave_rows i
  rw [rows, placeOf_eq, placeOf_eq, h]

theorem bankRows_eq (g a len : ℕ) : bankRows g a len =
    if placeOf g a = placeOf g (a + len - 1) then [placeOf g a] else [placeOf g a, placeOf g (a + len - 1)] := rfl

theorem bankRows_length (g a len : ℕ) : (bankRows g a len).length ≤ 2 := by
  rw [bankRows_eq]
  split <;> simp

/-- A range inside one 2,048-byte piece lies in one row. -/
theorem bankRows_single (i : Interleave) {a len : ℕ} (h : (a + len - 1) / 2048 = a / 2048) :
    bankRows i.bytes a len = [placeOf i.bytes a] := by
  rw [bankRows_eq, if_pos (placeOf_congr i h.symm)]

theorem interleave_places (i : Interleave) : ∃ m, (m = 1 ∨ m = 4 ∨ m = 16 ∨ m = 512) ∧
    (∀ b, bankOf i.bytes b = b / 2048 / m % 4) ∧
    ∀ b, rowOf i.bytes b = b / 2048 / (4 * m) * m + b / 2048 % m := by
  obtain ⟨m, sizes, rows⟩ := interleave_rows i
  rw [rows]
  exact ⟨m, sizes, fun b => congrArg Prod.fst (placeOf_eq m b), fun b => congrArg Prod.snd (placeOf_eq m b)⟩

/-- No byte of a range of up to 64 lies outside the pieces of its first and last byte. -/
theorem placeOf_mem_bankRows (i : Interleave) {a len k : ℕ} (h : len ≤ 64) (inside : k < len) :
    placeOf i.bytes (a + k) ∈ bankRows i.bytes a len := by
  have piece : (a + k) / 2048 = a / 2048 ∨ (a + k) / 2048 = (a + len - 1) / 2048 := by omega
  rw [bankRows_eq]
  rcases piece with first | last
  · rw [placeOf_congr i first]
    split <;> simp
  · rw [placeOf_congr i last]
    split <;> simp [*]

/-- Settles O23: with m rows to an interleave, m one of 1, 4, 16 and 512. -/
theorem accessTouchesItsBankRows : Obligations.AccessTouchesItsBankRows := by
  intro i a g
  obtain ⟨m, sizes, banks, rows⟩ := interleave_places i
  refine ⟨⟨rfl, rfl⟩, fun below => ?_, fun b bank row inRow => ?_, fun aligned off len pos fits => ?_, fun len k most inside => ?_⟩
  · rw [banks, rows]
    rcases sizes with rfl | rfl | rfl | rfl <;> omega
  · rw [banks, banks] at bank
    rw [rows, rows] at row
    have piece : a / 2048 = b / 2048 := by rcases sizes with rfl | rfl | rfl | rfl <;> omega
    omega
  · rw [bankRows_single i (by omega)]
    exact congrArg (fun p => [p]) (placeOf_congr i (by omega))
  · exact ⟨placeOf_mem_bankRows i most inside, bankRows_length g a len⟩

/-! ### Durations -/

theorem timingLegal_iff (t : Timing) : Safety.timingLegal t = true ↔
    (10 ≤ t.activate ∧ t.activate ≤ 60) ∧ (10 ≤ t.precharge ∧ t.precharge ≤ 60) ∧ (10 ≤ t.access ∧ t.access ≤ 80) ∧
    (60 ≤ t.refresh ∧ t.refresh ≤ 350) ∧ 100 ≤ t.exit ∧ t.exit ≤ 1000 := by
  simp [Safety.timingLegal, within_iff, and_assoc]

theorem rowDuration_bounds {t : Timing} (h : Safety.timingLegal t = true) (opened : Option ℕ) (row : ℕ) :
    10 ≤ rowDuration t opened row ∧ rowDuration t opened row ≤ 200 := by
  obtain ⟨activate, precharge, access, -⟩ := (timingLegal_iff t).1 h
  unfold rowDuration
  split
  · omega
  · split <;> omega

/-- Each bank-row takes at most 200 ns. -/
theorem serveRows_bounds {t : Timing} (h : Safety.timingLegal t = true) (ps : List (ℕ × ℕ)) (rows : List (Option ℕ)) :
    10 * ps.length ≤ (serveRows t ps rows).1 ∧ (serveRows t ps rows).1 ≤ 200 * ps.length := by
  induction ps generalizing rows with
  | nil => exact ⟨Nat.zero_le _, Nat.zero_le _⟩
  | cons p ps ih =>
    obtain ⟨b, r⟩ := p
    have first := rowDuration_bounds h (rows.getD b none) r
    have rest := ih (rows.set b (some r))
    simp only [serveRows, List.length_cons]
    omega

/-- Only a slot is read and then written, and a slot of an aligned table lies in one row. -/
theorem range_modify {l : Lookup} {sp : Spill} {a : Access} (i : Interleave) (aligned : l.base % 64 = 0) {addr len : ℕ}
    (h : a.range l sp = some (addr, len, true)) : (bankRows i.bytes addr len).length = 1 := by
  have slot (bucket : ℕ) (sl : Slot) : (bankRows i.bytes (slotAddress l.base bucket sl) Config.slotBytes).length = 1 := by
    rw [bankRows_single i]
    · rfl
    · cases sl <;> simp only [slotAddress, bucketAddress, slotOffset, Config.slotBytes, Config.bucketBytes] <;> omega
  unfold Access.range at h
  split at h <;> cases h <;> exact slot _ _

/-- Settles O24: two rows at 200 ns each, or one row and an access time more, or a refresh. -/
theorem grantsEndWithin400ns : Obligations.GrantsEndWithin400ns := by
  refine ⟨fun t row r => ⟨by simp [rowDuration], rfl, fun other => by simp [rowDuration, other]⟩, fun m l sp a legal aligned => ?_⟩
  obtain ⟨-, -, access, refresh, -⟩ := (timingLegal_iff _).1 legal
  unfold accessCost
  split
  case h_1 => exact ⟨by omega, by omega⟩
  case h_2 addr len modify range =>
    have cost := serveRows_bounds legal (bankRows m.interleave.bytes addr len) m.openRows
    have rows := bankRows_length m.interleave.bytes addr len
    have some_ : 0 < (bankRows m.interleave.bytes addr len).length := by rw [bankRows_eq]; split <;> simp
    cases modify with
    | true =>
      have one := range_modify m.interleave aligned range
      simp only [one] at cost
      simp only [if_true]
      omega
    | false =>
      simp only [Bool.false_eq_true, if_false]
      omega

end Sys2Proof.Proofs
end

section
/-! PROOFS. Frames and samples: what a change of context and a Steer frame are, good frames that join a buffer, samples at the
lookup and capture units, and Position reports. -/

namespace Sys2Proof.Proofs
open Sys2Proof Sys2Proof.Machine

/-! ### Events, context changes and Steer frames -/

theorem placeEvent_eq (s : State) (k : Option Head) (e : Event) :
    s.placeEvent k e = { s with report := Safety.withEvent s.report k e } := by cases k <;> rfl

theorem changeState_eq (s : State) (n : Head) (c : Context) (new : CtxState) (cause : StateCause) :
    s.changeState n c new cause = Safety.changed s n { c with state := new } cause none := rfl

/-- A Steer frame placed and the transmitter's choice after it: dropped, in the slot, or in transmission (R146, R150). -/
theorem placeSteer_choose (n : Head) (p : HeadPort) (payload : List Byte) :
    (if p.up then HeadPort.choose n (p.placeSteer payload) else p) = Safety.withSteer n p payload := by
  cases up : p.up <;> cases sending : p.sending <;>
    simp [Safety.withSteer, HeadPort.choose, HeadPort.placeSteer, up, sending, steerBytes, headCode]

/-- A Steer frame carries the index of its head's latest expiry; before the first one a port that is UP draws a free one
(R54; log 9). -/
theorem steer_eq (s : State) (n : Head) (mode : SteerMode) (reason : SteerReason) (az el : Int) :
    s.steer n mode reason az el = { s with
      freeCount := if (s.ports.get n).up ∧ latestIndex (s.headTime.get n) = none then s.freeCount + 1 else s.freeCount
      ports := s.ports.set n
        (Safety.withSteer n (s.ports.get n) (steerPayload (s.steerIndex n) mode reason az el)) } := by
  rw [← placeSteer_choose]
  cases up : (s.ports.get n).up <;> cases index : latestIndex (s.headTime.get n) <;>
    simp [State.steer, State.steerDrawn, State.kickHead, State.setPort, up, index]

/-- With an expiry behind it a head's Steer frame touches its port alone (R54). -/
theorem steer_of_index {s : State} {n : Head} {i : ℕ} (h : latestIndex (s.headTime.get n) = some i) (mode : SteerMode)
    (reason : SteerReason) (az el : Int) : s.steer n mode reason az el = { s with
      ports := s.ports.set n (Safety.withSteer n (s.ports.get n) (steerPayload i mode reason az el)) } := by
  simp [steer_eq, State.steerIndex, h]

/-! ### Frames that join a buffer -/

theorem uplinkUp_requests (s : State) : (Safety.uplinkUp s).requests = s.uplink.requests :=
  State.kickUplink_requests { s with uplink := { s.uplink with up := true } }

/-- Settles O29: the port has heard the frame before it joins a buffer, or is counted. -/
theorem statusAndRequestsBuffered : Obligations.StatusAndRequestsBuffered := by
  refine ⟨fun n f s good kind dest => ?_, fun f s good kind dest => ?_⟩
  · have run : exec (.headStatusFrame n f) s = .next (s.receive (.head n) f) := rfl
    rw [run, receive_of_good good, State.route, State.routeHead, kind, dest]
    refine congrArg _ ?_
    show (s.linkUp (.head n)).forwardUp n f = _
    have forward : (s.linkUp (.head n)).uplink = s.uplink := by rw [linkUp_head]
    unfold State.forwardUp
    rw [forward]
    split
    · rw [linkUp_head]
      rfl
    · exact linkUp_countBad_head s n
  · have run : exec (.managementRequestFrame f) s = .next (s.receive .uplink f) := rfl
    rw [run, receive_of_good good, State.route, State.routeUplink, kind, dest]
    refine congrArg _ ?_
    show (s.linkUp .uplink).bufferRequest f = _
    unfold State.bufferRequest
    rw [linkUp_uplink, uplinkUp_requests]
    split
    · rfl
    · exact linkUp_countBad_uplink s

theorem headOfCode_headNumber (n : Head) : headOfCode (headNumber n + 1) = some n := by cases n <;> rfl

/-- Settles O30: the frame is placed and its motion flag seen, or it is counted at the uplink. -/
theorem headCommandForwarded : Obligations.HeadCommandForwarded := by
  intro n f s good kind dest p c placed
  have run : exec (.headCommandFrame f) s = .next (s.receive .uplink f) := rfl
  have routed : (s.linkUp .uplink).routeUplink f = (s.linkUp .uplink).forwardDown n f := by
    rw [State.routeUplink, kind, dest, headOfCode_headNumber]
    rfl
  rw [run, receive_of_good good, State.route, routed]
  refine congrArg _ ?_
  have full : (s.linkUp .uplink).ports = s.ports := rfl
  unfold State.forwardDown
  rw [full]
  by_cases room : 8 ≤ p.forward.length
  · rw [if_pos room, if_neg (Nat.not_lt.2 room)]
    exact linkUp_countBad_uplink s
  · rw [if_neg room, if_pos (Nat.lt_of_not_le room)]
    have joined : ((s.linkUp .uplink).setPort n { s.ports.get n with forward := (s.ports.get n).forward ++ [f] }).kickHead n =
        { s with uplink := Safety.uplinkUp s, ports := s.ports.set n placed } := by
      simp [State.kickHead, State.setPort, linkUp_uplink, placed, p]
    rw [joined]
    have motion : frameMotion f = (frameFlags f).testBit 0 := rfl
    rw [motion]
    by_cases flag : (frameFlags f).testBit 0 = true
    · rw [if_pos flag]
      simp only [State.motionCommand, Bool.or_eq_true, decide_eq_true_eq, flag, true_and]
      by_cases moving : c.state = .coasting ∨ c.state = .searching
      · rw [if_pos moving, if_pos moving]
        rfl
      · rw [if_neg moving, if_neg moving]
    · rw [if_neg flag, if_neg fun h => flag h.1]

/-! ### Samples at the lookup unit -/

theorem handOn_of_no_record (s : State) (n : Head) (m : MeasuredSample) {r : LookupResult} (h : r.recordOf = none) :
    s.handOn n m r = s.toCapture n ⟨m, r⟩ := by simp [State.handOn, h]

theorem handOn_record (s : State) (n : Head) (m : MeasuredSample) (r : CellRecord) : s.handOn n m (.record r) =
    (if r.overflow then Safety.raised s (some n) .cellOverflow m.index else s).toCapture n ⟨m, .record r⟩ := by
  simp [State.handOn, LookupResult.recordOf, raise_eq_raised]

/-- The only record with a key is the one found. -/
theorem find_of_unique {l : Lookup} {k : CellKey} {r : CellRecord} (mem : some r ∈ l.records) (key : r.key = k)
    (unique : ∀ r', some r' ∈ l.records → r'.key = k → r' = r) : l.find k = some r := by
  cases found : l.find k with
  | none => exact absurd (mem_validKeys.2 ⟨r, mem, key⟩) ((find_eq_none_iff l k).1 found)
  | some r' =>
    obtain ⟨i, -, at_, key'⟩ := find_some found
    rw [unique r' (List.mem_of_getElem? at_) key']

theorem startHeadWalk_eq (s : State) (n : Head) (m : MeasuredSample) (k : CellKey) : s.startHeadWalk n m k =
    let b := cellHash s.lookup.bucketCount k
    { s with
      lookup := { s.lookup with
        rewalk := s.lookup.rewalk.filter (· ≠ k)
        walks := s.lookup.walks ++ [⟨.head n, k, [n], decide (k ∈ s.lookup.rewalk), [], [], false, some b, false, false⟩] }
      mem := { s.mem with walkQueue := s.mem.walkQueue ++ [⟨.head n, b, s.lookup.base + b * 64⟩] }
      waiting := s.waiting.set n (some ⟨m, false⟩) } := by
  have distinct : (fun k' : CellKey => k' != k) = fun k' => decide (k' ≠ k) := by funext k'; rw [bne, decide_not]; rfl
  simp only [State.startHeadWalk, State.startWalk, State.requestBucket, State.setWaiting, Lookup.hashed, distinct,
    List.contains_eq_mem, bucketAddress, Config.bucketBytes]

/-- Settles O33: the cases of a fresh lookup. -/
theorem sampleLookedUp : Obligations.SampleLookedUp := by
  intro s n m idle
  have fresh : s.lookupSample n m = s.lookupFresh n m := by rw [State.lookupSample, idle]
  refine ⟨fun block => ?_, fun b block off => ?_, ?_⟩
  · rw [fresh, State.lookupFresh, block]
    exact handOn_of_no_record s n m rfl
  · rw [fresh, State.lookupFresh, block, off]
    exact handOn_of_no_record s n m rfl
  intro b block on k
  refine ⟨fun r mem key unique => ?_, fun noRecord => ?_⟩
  · simp only [fresh, State.lookupFresh, block, on, show s.lookup.find (cellKeyOf s.lookup.shift b.pos) = some r from
      find_of_unique mem key unique, Bool.not_true, Bool.false_eq_true, if_false]
    exact handOn_record s n m r
  · have missed : s.lookupFresh n m = s.missed n m k := by
      have absent : s.lookup.find (cellKeyOf s.lookup.shift b.pos) = none :=
        (find_eq_none_iff _ _).2 fun h => by
          obtain ⟨r, mem, key⟩ := mem_validKeys.1 h
          exact noRecord r mem key
      simp only [State.lookupFresh, block, on, absent, Bool.not_true, Bool.false_eq_true, if_false]
      rfl
    rw [fresh, missed]
    refine ⟨fun w walk => ?_, fun noWalk => ?_⟩
    · simp only [State.missed, show s.lookup.walkFor k = some w from walk]
      rfl
    · have noLive : s.lookup.walkFor k = none := (walkFor_eq_none_iff _ _).2 fun h => by
        obtain ⟨w, mem, live, key⟩ := mem_liveKeys.1 h
        rw [noWalk w mem key] at live
        cases live
      have free : s.lookup.chargeFree (.head n) = true ↔ ∀ w ∈ s.lookup.walks, w.charge ≠ .head n := by
        simp [Lookup.chargeFree]
      simp only [State.missed, noLive, free, startHeadWalk_eq]
      rfl

theorem finishLate_of_waiting {s : State} {n : Head} {w : WaitingSample} (h : s.waiting.get n = some w) :
    s.finishLate n = { s with waiting := s.waiting.set n none }.toCapture n ⟨w.sample, .late⟩ := by
  rw [State.finishLate, h]
  exact handOn_of_no_record _ n w.sample rfl

/-- A head whose waiting sample has been finished has none. -/
theorem lookupSample_after_late (s : State) (n : Head) (m m' : MeasuredSample) :
    ({ s with waiting := s.waiting.set n none }.toCapture n ⟨m', .late⟩).lookupSample n m =
      ({ s with waiting := s.waiting.set n none }.toCapture n ⟨m', .late⟩).lookupFresh n m := by
  rw [State.lookupSample]
  simp

/-- A walk changed before it ends is gone all the same. -/
theorem endWalk_mapWalk (l : Lookup) (c : Charge) {f : Walk → Walk} (h : ∀ w, (f w).charge = w.charge) :
    (l.mapWalk c f).endWalk c = l.endWalk c := by
  simp only [Lookup.endWalk, Lookup.mapWalk, Lookup.mk.injEq, true_and, and_true]
  induction l.walks with
  | nil => rfl
  | cons w ws ih =>
    by_cases own : w.charge = c
    · simp [own, h, ih]
    · simp [own, ih]

/-- A head's sample leaves its walk; a walk left with nothing ends, unless a read of it is outstanding (R73). -/
theorem leaveWalk_of_walk {s : State} {n : Head} {k : Walk} (h : s.lookup.walkOf n = some k) : s.leaveWalk n =
    let stay := k.waiters.filter (· ≠ n)
    { s with lookup :=
        if stay = [] ∧ k.pin = false ∧ k.outstanding = none then s.lookup.endWalk k.charge
        else s.lookup.mapWalk k.charge fun v => { v with waiters := stay } } := by
  have distinct : (fun m : Head => m != n) = fun m => decide (m ≠ n) := by funext m; rw [bne, decide_not]; rfl
  have found : s.lookup.walks.find? (fun w => w.waiters.contains n) = some k := h
  rw [State.leaveWalk, found]
  simp only [distinct, State.dropWalk]
  cases stay : k.waiters.filter (fun m => decide (m ≠ n)) <;> cases pin : k.pin <;> cases out : k.outstanding <;>
    simp [endWalk_mapWalk]

theorem sameWalk_iff {s : State} {n : Head} {m : MeasuredSample} {k : Walk} (h : s.lookup.walkOf n = some k) :
    s.sameWalk n m = true ↔
      s.lookup.configured = true ∧ ∃ b, m.block = some b ∧ cellKeyOf s.lookup.shift b.pos = k.key := by
  rw [State.sameWalk, h, Bool.and_eq_true]
  refine and_congr_right fun _ => ?_
  cases m.block with
  | none => simp
  | some b => simpa using eq_comm

/-- Settles O34: a waiting sample without a walk, on the next one's walk, and on another. -/
theorem nextSampleFinishesLate : Obligations.NextSampleFinishesLate := by
  intro s n m w waiting late
  have lateOf (t : State) (h : t.waiting = s.waiting) : (t.finishLate n).lookupFresh n m = (late t).lookupSample n m := by
    rw [finishLate_of_waiting (h ▸ waiting)]
    exact (lookupSample_after_late t n m w.sample).symm
  refine ⟨fun pending => ?_, ?_⟩
  · rw [State.lookupSample, waiting]
    simp only [pending, if_true]
    exact lateOf s rfl
  intro walking k walk same stay left finished
  have isSame_iff : s.sameWalk n m = true ↔ same := sameWalk_iff walk
  have onWalk (isSame : same) : s.lookupSample n m = (s.finishLate n).setWaiting n (some ⟨m, false⟩) := by
    simp [State.lookupSample, waiting, walking, isSame_iff.2 isSame]
  have leaving (other : ¬same) : s.lookupSample n m = (late (s.leaveWalk n)).lookupSample n m := by
    rw [← lateOf _ (by rw [leaveWalk_of_walk walk]), State.lookupSample, waiting]
    simp [walking, Bool.eq_false_iff.2 (mt isSame_iff.1 other)]
  refine ⟨fun isSame => ?_, fun other stays => ?_, fun other alone unpinned => ⟨fun b outstanding => ?_, fun outstanding => ?_⟩⟩
  · rw [onWalk isSame, finishLate_of_waiting waiting]
    rfl
  · have goesOn : ¬(k.waiters.filter (· ≠ n) = [] ∧ k.pin = false ∧ k.outstanding = none) := fun ⟨none_, pin, out⟩ => by
      rcases stays with some_ | pinned | reading
      · exact some_ none_
      · rw [pin] at pinned
        cases pinned
      · exact reading out
    rw [leaving other, leaveWalk_of_walk walk]
    simp only [if_neg goesOn]
    rfl
  · have goesOn : ¬(k.waiters.filter (· ≠ n) = [] ∧ k.pin = false ∧ k.outstanding = none) := fun ⟨_, _, out⟩ => by
      rw [out] at outstanding
      cases outstanding
    rw [leaving other, leaveWalk_of_walk walk]
    simp only [if_neg goesOn]
    rw [show k.waiters.filter (fun m => decide (m ≠ n)) = [] from alone]
    rfl
  · have ends : k.waiters.filter (· ≠ n) = [] ∧ k.pin = false ∧ k.outstanding = none := ⟨alone, unpinned, outstanding⟩
    rw [leaving other, leaveWalk_of_walk walk]
    simp only [ends, and_self, if_true]
    rfl

/-! ### Samples at the capture unit -/

theorem attemptWaits_iff (s : State) (n : Head) : s.attemptWaits n = true ↔ ∃ a ∈ s.capture.waiting, a.head = n := by
  simp [State.attemptWaits]

theorem flags_any_iff (f : SampleFlags) : f.any = true ↔ SampleFlags.none ≠ f := by
  obtain ⟨a, b, c, d, e, g⟩ := f
  cases a <;> cases b <;> cases c <;> cases d <;> cases e <;> cases g <;> decide

theorem nearestPoint_eq_none_iff (b : Vec3) (ps : List Point) : nearestPoint b ps = none ↔ ∀ p ∈ ps, p.state = .disabled :=
  (nearestPointIsNearest b ps).1

theorem eligible_of_record {s : State} {h : Handed} {b : BlockPos} {r : CellRecord} (tracking : h.sample.tracking = .locked)
    (active : s.service = .active) (flags : h.sample.flags = SampleFlags.none) (block : h.sample.block = some b)
    (result : h.result = .record r) (complete : r.incomplete = false) :
    s.eligible h = (nearestPoint b.pos r.points).map fun p => (b, p) := by
  have noFlag : h.sample.flags.any = false := Bool.eq_false_iff.2 fun any => (flags_any_iff _).1 any flags.symm
  simp [State.eligible, block, result, LookupResult.recordOf, tracking, active, noFlag, complete]

theorem not_eligible {s : State} {h : Handed} (bars : h.sample.tracking ≠ .locked ∨ s.service ≠ .active ∨
    SampleFlags.none ≠ h.sample.flags ∨ h.sample.block = none ∨
    ∀ r, h.result = .record r → r.incomplete = true ∨ ∀ p ∈ r.points, p.state = .disabled) : s.eligible h = none := by
  by_contra eligible
  obtain ⟨⟨b, p⟩, found⟩ := Option.ne_none_iff_exists'.1 eligible
  unfold State.eligible at found
  split at found
  case h_2 => cases found
  case h_1 b' r block record =>
    split_ifs at found with tests
    simp only [Bool.and_eq_true, decide_eq_true_eq, Bool.not_eq_true'] at tests
    obtain ⟨⟨⟨tracking, active⟩, flags⟩, complete⟩ := tests
    have result : h.result = .record r := by
      cases e : h.result <;> simp [e, LookupResult.recordOf] at record
      rw [record]
    have enabled : nearestPoint b'.pos r.points ≠ none := fun none_ => by simp [none_] at found
    rcases bars with other | other | flag | noBlock | disabled
    · exact other tracking
    · exact other active
    · rw [← flags_any_iff, flags] at flag
      cases flag
    · rw [noBlock] at block
      cases block
    · rcases disabled r result with incomplete | all
      · rw [incomplete] at complete
        cases complete
      · exact enabled ((nearestPoint_eq_none_iff ..).2 all)

theorem settled_iff (q : SettleQueue) (p : Point) : settled q p = true ↔ p.state = .open ∧ p.settle ≤ q.entries.length ∧
    ∀ e ∈ q.entries.drop (q.entries.length - p.settle), e.inWindow = true := by
  simp [settled, SettleQueue.newest, and_assoc]

/-- Settles O36: behind an attempt, not eligible, settled or not. -/
theorem sampleAtCaptureUnit : Obligations.SampleAtCaptureUnit := by
  intro s n h
  refine ⟨fun waits => ?_, fun free => ?_⟩
  · rw [State.toCapture, if_pos ((attemptWaits_iff s n).2 waits)]
    rfl
  have work : s.toCapture n h = s.settleWork n h := by
    rw [State.toCapture, if_neg]
    rw [attemptWaits_iff]
    rintro ⟨a, mem, own⟩
    exact free a mem own
  refine ⟨fun bars => ?_, ?_⟩
  · rw [work, State.settleWork, not_eligible bars]
    rfl
  · intro r b p tracking active flags block result complete nearest q t isSettled
    have worked : s.settleWork n h = if settled q p then
        { t with capture := { t.capture with waiting := t.capture.waiting ++ [⟨n, h, p⟩] } } else t.reportSample n h := by
      rw [State.settleWork, eligible_of_record tracking active flags block result complete, nearest]
      rfl
    rw [work, worked]
    exact ⟨fun yes => if_pos ((settled_iff q p).2 yes), fun no => if_neg (mt (settled_iff q p).1 no)⟩

/-! ### Position reports -/

theorem positionPayload_length (n : Head) (h : Handed) : (positionPayload n h).length = 26 := by
  simp [positionPayload, vecLE_length]

/-- The point a Position report shows, by its block position and its record. -/
theorem shownPoint_eq (h : Handed) : shownPoint h = match h.sample.block, h.result with
    | some b, .record r => nearestPoint b.pos r.points
    | _, _ => none := by
  unfold shownPoint
  cases h.sample.block <;> cases h.result <;> rfl

theorem shownPoint_eq_none_iff (h : Handed) : shownPoint h = none ↔ h.sample.block = none ∨ h.result = .noPosition ∨
    h.result = .noTable ∨ h.result = .late ∨ ∃ r, h.result = .record r ∧ ∀ p ∈ r.points, p.state = .disabled := by
  rw [shownPoint_eq]
  cases block : h.sample.block <;> cases result : h.result <;> simp [nearestPoint_eq_none_iff]

/-- The point's bytes of a Position payload: its id and clamped deviation, or zeros (R154). -/
def pointBytes (pos : Vec3) : Option Point → List Byte
  | some p => natLE 2 p.id ++ vecLE 2 (clampDeviation (deviation pos p.nominal))
  | none => List.replicate 8 0

theorem positionPayload_eq (n : Head) (h : Handed) {pos : Vec3}
    (position : (h.sample.block.map BlockPos.pos).getD ⟨0, 0, 0⟩ = pos) : positionPayload n h =
    [byteOf (headNumber n)] ++ natLE 2 h.sample.index ++ [byteOf h.sample.tracking.code] ++ vecLE 4 pos ++
      pointBytes pos (shownPoint h) ++ [byteOf h.sample.flags.code, byteOf (lookupByte h)] := by
  subst position
  unfold positionPayload
  cases shownPoint h with
  | none =>
    have zeros : natLE 2 0 ++ vecLE 2 ⟨0, 0, 0⟩ = List.replicate 8 (0 : Byte) := rfl
    simp only [pointBytes, ← zeros, Option.map_none, Option.getD_none, List.append_assoc]
  | some p => simp [pointBytes]

/-- The lookup byte by the result; without a record no point is shown and no mark is read. -/
theorem lookupByte_eq (h : Handed) : lookupByte h = match h.result with
    | .noPosition => 0
    | .noTable => 1
    | .record r => 2 + (if (shownPoint h).isSome then 4 else 0) + (if r.incomplete then 8 else 0) + (if r.overflow then 16 else 0)
    | .late => 3 := by
  have hidden (noRecord : h.result.recordOf = none) : shownPoint h = none := by
    simp only [shownPoint, noRecord]
    cases h.sample.block <;> rfl
  cases result : h.result with
  | record r => simp [lookupByte, result, LookupResult.code, LookupResult.recordOf]
  | _ => simp [lookupByte, result, LookupResult.code, LookupResult.recordOf, hidden]

/-- The count chooses a sample or not; one chosen enters where a Position frame may (R158, R160). -/
theorem reportSample_eq (s : State) (n : Head) (h : Handed) : s.reportSample n h =
    let d := s.report.decimation.get n
    let zeroed := s.setDecimation n { d with count := 0 }
    if d.effective ≤ d.count + 1 then
      if s.report.posCount < 40 ∧ s.report.occupancy < 48 then zeroed.enqueue ⟨.position, positionPayload n h⟩ else zeroed
    else s.setDecimation n { d with count := d.count + 1 } := by
  have fits : (s.setDecimation n { s.report.decimation.get n with count := 0 }).report.positionFits =
      decide (s.report.posCount < 40 ∧ s.report.occupancy < 48) := by rw [Bool.decide_and]; rfl
  simp only [State.reportSample, fits, decide_eq_true_eq]

/-- Settles O37: the payload's bytes, the point shown, and the decimation's choice. -/
theorem positionReportsDecimated : Obligations.PositionReportsDecimated := by
  refine ⟨by decide, fun n h => ?_, fun s n h => ?_⟩
  · intro pos shown dev point one f lookup
    have isShown : shownPoint h = shown := shownPoint_eq h
    refine ⟨?_, by rw [← isShown, shownPoint_eq_none_iff]⟩
    have position : (h.sample.block.map BlockPos.pos).getD ⟨0, 0, 0⟩ = pos := by
      simp only [pos]
      cases h.sample.block <;> rfl
    have bytes (o : Option Point) : pointBytes pos o = match o with
        | some p => natLE 2 p.id ++ dev pos.x p.nominal.x ++ dev pos.y p.nominal.y ++ dev pos.z p.nominal.z
        | none => List.replicate 8 0 := by
      cases o with
      | none => rfl
      | some p =>
        simp only [pointBytes, vecLE, clampDeviation, deviation, clampInt_eq (show (-32767 : Int) ≤ 32767 by decide), dev,
          List.append_assoc]
    have lookupCode : lookupByte h = lookup := by
      rw [lookupByte_eq, isShown] <;> rfl
    rw [positionPayload_eq n h position, isShown, bytes shown, lookupCode]
    simp only [vecLE, List.append_assoc]
    rfl
  · intro d zeroed
    have bytes := positionPayload_length n h
    have eq := reportSample_eq s n h
    refine ⟨bytes, fun skipped => ?_, fun chosen full => ?_, fun chosen positions room => ?_⟩
    · rw [eq, if_neg (Nat.not_le.2 skipped)]
      rfl
    · rw [eq, if_pos chosen, if_neg (by omega)]
      rfl
    · rw [eq, if_pos chosen, if_pos ⟨positions, room⟩, State.enqueue_eq]
      rfl

end Sys2Proof.Proofs
end

section
/-! PROOFS. Accepted samples: the transition of the context with its events and Steer frame, and what the lookup that follows
leaves as it was. -/

namespace Sys2Proof.Proofs
open Sys2Proof Sys2Proof.Machine

/-! ### A fault in one instant with another event -/

/-- The draw of R164 picks the event held; all else is the fault's (log 7). -/
theorem raiseWith_raisedWith (s : State) (k : Option Head) (kind : FaultKind) (detail : ℕ) (e : Event) :
    Safety.RaisedWith s k kind detail e (s.raiseWith k kind detail e) := by
  rw [State.raiseWith, Safety.RaisedWith, faultRecord_eq]
  by_cases first : (Safety.faultsOf s k).first.isNone
  · rw [if_pos first, if_pos first, write_first first]
    refine ⟨if Config.freeChoice s.freeCount % 2 = 0 then .fault kind detail else e, ?_, ?_⟩
    · split <;> simp
    · cases k <;> rfl
  · rw [if_neg first, if_neg first, write_further first, setFault_placeEvent]

/-- A fault and an event leave the ports alone. -/
theorem raiseWith_ports (s : State) (k : Option Head) (kind : FaultKind) (detail : ℕ) (e : Event) (p : PerHead HeadPort) :
    { s.raiseWith k kind detail e with ports := p } = { s with ports := p }.raiseWith k kind detail e := by
  have record : { s with ports := p }.faultRecord k = s.faultRecord k := by cases k <;> rfl
  by_cases first : (s.faultRecord k).first.isNone
  · simp only [State.raiseWith, record, if_pos first]
    cases k <;> rfl
  · simp only [State.raiseWith, record, if_neg first]
    cases k <;> rfl

/-! ### The transition -/

section
variable (s : State) (n : Head) (m : MeasuredSample) (ret : Bool)

/-- The context an accepted sample leaves head n (R35 to R41). -/
def newContext : Context :=
  Safety.contextAfter (s.ctx.get n) (s.settings.get n) m ret (Safety.slips (s.settings.get n) m)

/-- The locked history with the sample as its newest (R35). -/
def relocked : Context :=
  ((s.ctx.get n).accept m).pushLocked ⟨m.az, m.el, m.index⟩ (s.settings.get n).maxRate

theorem newContext_locked (locked : (s.ctx.get n).state = .locked) : newContext s n m true =
    if Safety.slips (s.settings.get n) m then { (relocked s n m).enterSettling (s.settings.get n) with state := .settling }
    else relocked s n m := by
  unfold newContext relocked Context.pushLocked
  cases newest : (s.ctx.get n).newest <;>
    simp [Safety.contextAfter, locked, newest, Context.accept, Context.enterSettling]

theorem transition_locked (locked : (s.ctx.get n).state = .locked) : s.transition n ((s.ctx.get n).accept m) m true =
    if Safety.slips (s.settings.get n) m then
      (s.changeStateWithFault n ((relocked s n m).enterSettling (s.settings.get n)) .settling .slip .distSlip m.index).steer n
        .follow .none m.az m.el
    else s.setCtx n (relocked s n m) := by
  unfold State.transition
  have arrived : ((s.ctx.get n).accept m).state = .locked := locked
  simp only [arrived, Safety.slips, relocked]
  rcases Option.eq_none_or_eq_some m.dist with dist | ⟨d, dist⟩ <;> simp [dist]

theorem newContext_return_lost (locked : (s.ctx.get n).state = .locked) : (newContext s n m false).state = .coasting := by
  simp [newContext, Safety.contextAfter, locked]

/-- The transition where the state of the context stays. -/
theorem transition_of_same (same : (newContext s n m ret).state = (s.ctx.get n).state) :
    s.transition n ((s.ctx.get n).accept m) m ret = s.setCtx n (newContext s n m ret) := by
  by_cases locked : (s.ctx.get n).state = .locked ∧ ret = true
  · obtain ⟨locked, rfl⟩ := locked
    rw [newContext_locked s n m locked] at same ⊢
    rw [transition_locked s n m locked]
    split_ifs at same ⊢
    · rw [locked] at same
      cases same
    · rfl
  unfold newContext at *
  rcases state : (s.ctx.get n).state <;> cases ret <;> simp only [Safety.contextAfter, state] at same ⊢
  all_goals simp [State.transition, Context.accept, state] at same locked ⊢

/-- The transition to another state, but for a slip: a STATE event and its Steer frame. -/
theorem transition_of_moved {i : ℕ} (index : latestIndex (s.headTime.get n) = some i)
    (moved : (newContext s n m ret).state ≠ (s.ctx.get n).state) (notSlip : ¬((s.ctx.get n).state = .locked ∧ ret = true)) :
    s.transition n ((s.ctx.get n).accept m) m ret = Safety.changed s n (newContext s n m ret)
      (if ret then .returnFound else .returnLost) (Safety.sampleSteer (s.ctx.get n) (newContext s n m ret) m i) := by
  have steered (t : State) (h : t.headTime = s.headTime) (mode : SteerMode) (reason : SteerReason) (az el : Int) :=
    steer_of_index (s := t) (h ▸ index) mode reason az el
  unfold newContext at *
  rcases state : (s.ctx.get n).state <;> cases ret <;> simp only [Safety.contextAfter, state] at moved notSlip ⊢
  case locked.false =>
    cases newest : (s.ctx.get n).newest <;>
      simp [State.transition, Context.accept, state, newest, changeState_eq, Safety.changed, Safety.sampleSteer]
  case settling.false =>
    simp [State.transition, Context.accept, state, steered, changeState_eq, Safety.changed, Safety.sampleSteer, steerPayload,
      steerModeCode, steerReasonCode, State.startSearch, State.steerSearch, startRecord, SearchRecord.reason]
  all_goals simp [State.transition, Context.accept, state, steered, changeState_eq, Safety.changed, Context.enterSettling,
      Safety.sampleSteer, steerPayload, steerModeCode, steerReasonCode] at moved notSlip ⊢

/-- The state with the context the sample leaves and its Steer frame placed. -/
def movedState (i : ℕ) : State :=
  { s with
    ctx := s.ctx.set n (newContext s n m ret)
    ports := match Safety.sampleSteer (s.ctx.get n) (newContext s n m ret) m i with
      | none => s.ports
      | some payload => s.ports.set n (Safety.withSteer n (s.ports.get n) payload) }

/-- A slip: DIST_SLIP in the instant of the STATE event, and the FOLLOW frame (R37, R39). -/
theorem transition_of_slip {i : ℕ} (index : latestIndex (s.headTime.get n) = some i) (locked : (s.ctx.get n).state = .locked)
    (moved : (newContext s n m true).state ≠ .locked) :
    s.transition n ((s.ctx.get n).accept m) m true =
      (movedState s n m true i).raiseWith (some n) .distSlip m.index (.state .locked (newContext s n m true).state .slip) := by
  have slip : Safety.slips (s.settings.get n) m = true := by
    by_contra no
    rw [newContext_locked s n m locked, if_neg no] at moved
    exact moved (by unfold relocked Context.pushLocked; cases newest : (s.ctx.get n).newest <;> simp [Context.accept, newest, locked])
  have new : newContext s n m true = { (relocked s n m).enterSettling (s.settings.get n) with state := .settling } := by
    rw [newContext_locked s n m locked, if_pos slip]
  have follow : Safety.sampleSteer (s.ctx.get n) (newContext s n m true) m i = some (steerPayload i .follow .none m.az m.el) := by
    simp [Safety.sampleSteer, new, locked, steerPayload, steerModeCode, steerReasonCode]
  rw [transition_locked s n m locked, if_pos slip, steer_of_index (i := i) (by simpa using index),
    State.changeStateWithFault, raiseWith_ports, locked, movedState, follow, new]
  simp [State.setCtx]

/-- What the transition of an accepted sample makes of the state, in its three cases. -/
theorem transition_cases {i : ℕ} (index : latestIndex (s.headTime.get n) = some i) :
    let new := newContext s n m ret
    let event (cause : StateCause) : Event := .state (s.ctx.get n).state new.state cause
    let b := s.transition n ((s.ctx.get n).accept m) m ret
    new.state = (s.ctx.get n).state ∧ b = movedState s n m ret i ∨
    new.state ≠ (s.ctx.get n).state ∧ ¬((s.ctx.get n).state = .locked ∧ ret = true) ∧
      b = { movedState s n m ret i with
        report := Safety.withEvent s.report (some n) (event (if ret then .returnFound else .returnLost)) } ∨
    new.state ≠ (s.ctx.get n).state ∧ ((s.ctx.get n).state = .locked ∧ ret = true) ∧
      b = (movedState s n m ret i).raiseWith (some n) .distSlip m.index (event .slip) := by
  intro new event b
  by_cases same : new.state = (s.ctx.get n).state
  · have noSteer : Safety.sampleSteer (s.ctx.get n) new m i = none := by simp [Safety.sampleSteer, same]
    have stayed : b = s.setCtx n new := transition_of_same s n m ret same
    refine .inl ⟨same, stayed.trans ?_⟩
    rw [movedState, noSteer]
    rfl
  by_cases slip : (s.ctx.get n).state = .locked ∧ ret = true
  · obtain ⟨locked, rfl⟩ := slip
    have slipped : b = _ := transition_of_slip s n m index locked (locked ▸ same)
    refine .inr (.inr ⟨same, ⟨locked, rfl⟩, slipped.trans ?_⟩)
    rw [← locked]
  · exact .inr (.inl ⟨same, slip, transition_of_moved s n m ret index same slip⟩)

end

/-! ### What the lookup and capture units leave as it was -/

/-- Head n's event slot holds an event, or one that superseded it (R164). -/
def SlotHolds (n : Head) (e : Event) (s : State) : Prop :=
  ∃ h, s.report.headSlots.get n = some h ∧ (h.superseded = true ∨ h.event = e)

/-- From s to t only head n's share of the lookup, capture and fault state has changed, with the walks, the attempts that
wait and the report unit; a first fault and an event of the head stay. -/
structure OwnShare (n : Head) (s t : State) : Prop where
  first : ∀ f, (s.headFaults.get n).first = some f → (t.headFaults.get n).first = some f
  slot : ∀ e, SlotHolds n e s → SlotHolds n e t
  others : ∀ k, k ≠ n → t.headFaults.get k = s.headFaults.get k ∧ t.waiting.get k = s.waiting.get k ∧
    t.settle.get k = s.settle.get k ∧ t.behind.get k = s.behind.get k ∧ t.report.headSlots.get k = s.report.headSlots.get k
  lookup : { t.lookup with walks := s.lookup.walks, rewalk := s.lookup.rewalk } = s.lookup
  mem : { t.mem with walkQueue := s.mem.walkQueue } = s.mem
  capture : { t.capture with waiting := s.capture.waiting } = s.capture
  rest : { t with
    freeCount := s.freeCount
    headFaults := s.headFaults, waiting := s.waiting, settle := s.settle, behind := s.behind, report := s.report
    uplink := s.uplink, lookup := s.lookup, mem := s.mem, capture := s.capture } = s

theorem OwnShare.refl (n : Head) (s : State) : OwnShare n s s :=
  ⟨fun _ => id, fun _ => id, fun _ _ => ⟨rfl, rfl, rfl, rfl, rfl⟩, rfl, rfl, rfl, rfl⟩

theorem OwnShare.trans {n : Head} {s t u : State} (a : OwnShare n s t) (b : OwnShare n t u) : OwnShare n s u where
  first f h := b.first f (a.first f h)
  slot e h := b.slot e (a.slot e h)
  others k h := by
    obtain ⟨f, w, q, l, e⟩ := a.others k h
    obtain ⟨f', w', q', l', e'⟩ := b.others k h
    exact ⟨f'.trans f, w'.trans w, q'.trans q, l'.trans l, e'.trans e⟩
  lookup := by
    rw [← a.lookup]
    exact congrArg (fun l : Lookup => { l with walks := s.lookup.walks, rewalk := s.lookup.rewalk }) b.lookup
  mem := by
    rw [← a.mem]
    exact congrArg (fun m : MemCtl => { m with walkQueue := s.mem.walkQueue }) b.mem
  capture := by
    rw [← a.capture]
    exact congrArg (fun c : Capture => { c with waiting := s.capture.waiting }) b.capture
  rest := by
    rw [← a.rest]
    exact congrArg (fun x : State => { x with
      freeCount := s.freeCount
      headFaults := s.headFaults, waiting := s.waiting, settle := s.settle, behind := s.behind, report := s.report
      uplink := s.uplink, lookup := s.lookup, mem := s.mem, capture := s.capture }) b.rest

theorem ownShare_lookup (n : Head) (s : State) (ws : List Walk) (ks : List CellKey) :
    OwnShare n s { s with lookup := { s.lookup with walks := ws, rewalk := ks } } :=
  { OwnShare.refl n s with lookup := rfl, rest := rfl }

theorem ownShare_walkQueue (n : Head) (s : State) (q : List WalkRead) :
    OwnShare n s { s with mem := { s.mem with walkQueue := q } } := { OwnShare.refl n s with mem := rfl, rest := rfl }

theorem ownShare_attempts (n : Head) (s : State) (q : List Attempt) :
    OwnShare n s { s with capture := { s.capture with waiting := q } } := { OwnShare.refl n s with capture := rfl, rest := rfl }

/-- What head n's own entries of the three queues become. -/
theorem ownShare_queues (n : Head) (s : State) (w : Option WaitingSample) (q : SettleQueue) (l : List Handed) :
    OwnShare n s { s with waiting := s.waiting.set n w, settle := s.settle.set n q, behind := s.behind.set n l } :=
  { OwnShare.refl n s with
    others := fun _ other => ⟨rfl, PerHead.get_set_ne _ _ other, PerHead.get_set_ne _ _ other, PerHead.get_set_ne _ _ other, rfl⟩
    rest := rfl }

theorem ownShare_setWaiting (n : Head) (s : State) (w : Option WaitingSample) : OwnShare n s (s.setWaiting n w) := by
  simpa [State.setWaiting] using ownShare_queues n s w (s.settle.get n) (s.behind.get n)

theorem ownShare_setSettle (n : Head) (s : State) (q : SettleQueue) : OwnShare n s (s.setSettle n q) := by
  simpa [State.setSettle] using ownShare_queues n s (s.waiting.get n) q (s.behind.get n)

theorem ownShare_setBehind (n : Head) (s : State) (l : List Handed) : OwnShare n s (s.setBehind n l) := by
  simpa [State.setBehind] using ownShare_queues n s (s.waiting.get n) (s.settle.get n) l

theorem risen_headSlots (r : Report) : (Safety.risen r).headSlots = r.headSlots := by
  simp only [Safety.risen]
  split <;> rfl

/-- A report unit with the same event slots of the heads. -/
theorem ownShare_report (n : Head) (s : State) (r : Report) (u : Uplink) (slots : r.headSlots = s.report.headSlots) :
    OwnShare n s { s with report := r, uplink := u } :=
  { OwnShare.refl n s with
    slot := fun e ⟨h, at_, holds⟩ => ⟨h, (congrArg (PerHead.get · n) slots).trans at_, holds⟩
    others := fun _ _ => ⟨rfl, rfl, rfl, rfl, by rw [slots]⟩
    rest := rfl }

theorem ownShare_reportSample (n : Head) (s : State) (h : Handed) : OwnShare n s (s.reportSample n h) := by
  have decimated (d : Decimation) : OwnShare n s (s.setDecimation n d) := ownShare_report n s _ s.uplink rfl
  rw [reportSample_eq]
  dsimp only
  split_ifs
  · refine OwnShare.trans (decimated { s.report.decimation.get n with count := 0 }) ?_
    rw [State.enqueue_eq]
    exact ownShare_report n _ _ _ (risen_headSlots _)
  · exact decimated _
  · exact decimated _

theorem ownShare_toCapture (n : Head) (s : State) (h : Handed) : OwnShare n s (s.toCapture n h) := by
  unfold State.toCapture
  split
  · exact ownShare_setBehind n s _
  unfold State.settleWork
  split
  · exact (ownShare_setSettle n s _).trans (ownShare_reportSample n _ h)
  · dsimp only
    split
    · exact (ownShare_setSettle n s _).trans (ownShare_attempts n _ _)
    · exact (ownShare_setSettle n s _).trans (ownShare_reportSample n _ h)

theorem ownShare_raise (n : Head) (s : State) (kind : FaultKind) (detail : ℕ) : OwnShare n s (s.raise (some n) kind detail) := by
  rw [raise_eq_raised, Safety.raised]
  split
  case isTrue first =>
    have absent : (s.headFaults.get n).first = none := Option.isNone_iff_eq_none.1 first
    exact { OwnShare.refl n s with
      first := fun f hf => by rw [absent] at hf; cases hf
      slot := fun e ⟨h, at_, _⟩ => ⟨⟨.fault kind detail, true⟩, by simp [Safety.withFaults, Safety.withEvent, at_], .inl rfl⟩
      others := fun k other => ⟨PerHead.get_set_ne _ _ other, rfl, rfl, rfl, PerHead.get_set_ne _ _ other⟩
      rest := rfl }
  case isFalse =>
    exact { OwnShare.refl n s with
      first := fun f hf => by simpa [Safety.withFaults, Safety.faultsOf] using hf
      others := fun k other => ⟨PerHead.get_set_ne _ _ other, rfl, rfl, rfl, rfl⟩
      rest := rfl }

theorem ownShare_handOn (n : Head) (s : State) (m : MeasuredSample) (r : LookupResult) : OwnShare n s (s.handOn n m r) := by
  unfold State.handOn
  dsimp only
  split
  · exact (ownShare_raise n s _ _).trans (ownShare_toCapture n _ _)
  · exact ownShare_toCapture n s _

theorem ownShare_finishLate (n : Head) (s : State) : OwnShare n s (s.finishLate n) := by
  unfold State.finishLate
  split
  · exact (ownShare_setWaiting n s none).trans (ownShare_handOn n _ _ _)
  · exact .refl n s

theorem ownShare_leaveWalk (n : Head) (s : State) : OwnShare n s (s.leaveWalk n) := by
  cases walk : s.lookup.walkOf n with
  | none =>
    have alone : s.leaveWalk n = s := by
      rw [State.leaveWalk, show s.lookup.walks.find? (fun w => w.waiters.contains n) = none from walk]
    rw [alone]
    exact .refl n s
  | some w =>
    rw [leaveWalk_of_walk walk]
    dsimp only
    split <;> exact ownShare_lookup n s _ s.lookup.rewalk

theorem ownShare_missed (n : Head) (s : State) (m : MeasuredSample) (k : CellKey) : OwnShare n s (s.missed n m k) := by
  unfold State.missed
  split
  · exact (ownShare_lookup n s _ s.lookup.rewalk).trans (ownShare_setWaiting n _ _)
  split
  · refine OwnShare.trans ?_ (ownShare_setWaiting n _ _)
    exact (ownShare_lookup n s _ (s.lookup.rewalk.filter fun k' => k' != k)).trans (ownShare_walkQueue n _ _)
  · exact ownShare_setWaiting n s _

theorem ownShare_lookupFresh (n : Head) (s : State) (m : MeasuredSample) : OwnShare n s (s.lookupFresh n m) := by
  unfold State.lookupFresh
  split
  · exact ownShare_handOn n s _ _
  split
  · exact ownShare_handOn n s _ _
  dsimp only
  split
  · exact ownShare_handOn n s _ _
  · exact ownShare_missed n s m _

theorem ownShare_lookupSample (n : Head) (s : State) (m : MeasuredSample) : OwnShare n s (s.lookupSample n m) := by
  unfold State.lookupSample
  split
  · exact ownShare_lookupFresh n s m
  split
  · exact (ownShare_finishLate n s).trans (ownShare_lookupFresh n _ m)
  split
  · exact (ownShare_finishLate n s).trans (ownShare_setWaiting n _ _)
  · exact ((ownShare_leaveWalk n s).trans (ownShare_finishLate n _)).trans (ownShare_lookupFresh n _ m)

/-- A fault with an event in one instant: the event is held, or superseded. -/
theorem raiseWith_slotHolds (n : Head) (s : State) (kind : FaultKind) (detail : ℕ) (e : Event) :
    SlotHolds n e (s.raiseWith (some n) kind detail e) := by
  unfold State.raiseWith
  dsimp only
  split
  · exact ⟨⟨_, true⟩, PerHead.get_set_self _ _ _, .inl rfl⟩
  · exact ⟨⟨e, _⟩, PerHead.get_set_self _ _ _, .inr rfl⟩

theorem raiseWith_first (n : Head) (s : State) (kind : FaultKind) (detail : ℕ) (e : Event) :
    ((s.raiseWith (some n) kind detail e).headFaults.get n).first =
      some ((s.headFaults.get n).first.getD ⟨kind, s.time.timebase, detail⟩) := by
  unfold State.raiseWith
  rw [faultRecord_eq]
  rcases Option.eq_none_or_eq_some (s.headFaults.get n).first with first | ⟨f, first⟩ <;>
    simp [Safety.faultsOf, first, State.setFault, State.placeBoth, placeEvent_eq, FaultRecord.write]

theorem ownShare_raiseWith (n : Head) (s : State) (kind : FaultKind) (detail : ℕ) (e : Event) :
    OwnShare n s (s.raiseWith (some n) kind detail e) := by
  have kept : ∀ f, (s.headFaults.get n).first = some f →
      ((s.raiseWith (some n) kind detail e).headFaults.get n).first = some f := fun f h => by
    rw [raiseWith_first, h, Option.getD_some]
  revert kept
  unfold State.raiseWith
  dsimp only
  split <;> intro kept
  · exact { OwnShare.refl n s with
      first := kept
      slot := fun e' ⟨h, at_, _⟩ => ⟨⟨_, true⟩, PerHead.get_set_self _ _ _, .inl rfl⟩
      others := fun k other => ⟨PerHead.get_set_ne _ _ other, rfl, rfl, rfl, PerHead.get_set_ne _ _ other⟩
      rest := rfl }
  · exact { OwnShare.refl n s with
      first := kept
      slot := fun e' ⟨h, at_, _⟩ => ⟨⟨e, true⟩, by simp [placeEvent_eq, State.setFault, Safety.withEvent, at_], .inl rfl⟩
      others := fun k other => ⟨PerHead.get_set_ne _ _ other, rfl, rfl, rfl, PerHead.get_set_ne _ _ other⟩
      rest := rfl }

theorem withEvent_slotHolds (n : Head) (s : State) (e : Event) :
    SlotHolds n e { s with report := Safety.withEvent s.report (some n) e } :=
  ⟨⟨e, _⟩, PerHead.get_set_self _ _ _, .inr rfl⟩

theorem ownShare_withEvent (n : Head) (s : State) (e : Event) :
    OwnShare n s { s with report := Safety.withEvent s.report (some n) e } :=
  { OwnShare.refl n s with
    slot := fun e' ⟨h, at_, _⟩ => ⟨⟨e, true⟩, by simp [Safety.withEvent, at_], .inl rfl⟩
    others := fun k other => ⟨rfl, rfl, rfl, rfl, PerHead.get_set_ne _ _ other⟩
    rest := rfl }

/-! ### The measurement -/

theorem distanceSource_eq {st : CtxState} (taken : st ≠ .disabled ∧ st ≠ .parked) (ret admValid : Bool) :
    distanceSource st ret admValid = if ret = false then .none else if st = .locked then .interferometer
      else if admValid then .adm else .none := by
  cases st <;> cases ret <;> simp [distanceSource] at taken ⊢

theorem timestampOf_entry {l : List HistoryEntry} {i : ℕ} {x : HistoryEntry} (h : l.find? (fun x => x.index = i) = some x) :
    timestampOf l i = x.time := by simp only [timestampOf, h]

theorem timestampOf_notional {l : List HistoryEntry} {i : ℕ} {x : HistoryEntry} (h : l.find? (fun x => x.index = i) = none)
    (oldest : l.head? = some x) : timestampOf l i = (x.time : Int) - x.period := by
  cases l with
  | nil => cases oldest
  | cons y l =>
    cases oldest
    simp only [timestampOf, h]

/-! ### An accepted sample -/

theorem acceptSample_eq (s : State) (n : Head) (r : RawSample) (m : MeasuredSample) (measured : s.measured n r = m)
    (ret : Bool) (isReturn : hasReturn (s.settings.get n) r = ret) : s.acceptSample n r =
    (s.transition n ((s.ctx.get n).accept m) m ret).lookupSample n
      { m with tracking := ((s.transition n ((s.ctx.get n).accept m) m ret).ctx.get n).state } := by
  rw [State.acceptSample, measured, isReturn]

theorem takeSample_accepted {s : State} {n : Head} {r : RawSample} (taken : Safety.samplesTaken s n)
    (passes : Safety.indexPasses s n r.index) : s.takeSample n r = s.acceptSample n r := by
  rw [← takesSamples_iff] at taken
  rw [← sampleAccepted_iff] at passes
  simp [State.takeSample, taken, passes]

/-- Settles O32: the transition in its three cases, and the lookup, which touches the head's own share alone. -/
theorem acceptedSampleMovesContext : Obligations.AcceptedSampleMovesContext := by
  intro n f s e good kind dest length newest r c set m ret new cause port moved event source taken passes
  obtain ⟨-, -, enabled, notParked⟩ := id taken
  let heard : State := { s with ports := s.ports.set n (Safety.headUp s n) }
  have index : latestIndex (heard.headTime.get n) = some e.index := by
    show ((s.headTime.get n).history.getLast?).map HistoryEntry.index = _
    rw [newest]
    rfl
  have run : exec (.sampleFrame n f) s = .next (heard.acceptSample n r) := by
    rw [exec_sampleFrame good kind dest length]
    exact congrArg _ (takeSample_accepted (s := heard) taken passes)
  let b := heard.transition n ((heard.ctx.get n).accept m) m ret
  have accepted : heard.acceptSample n r = b.lookupSample n { m with tracking := (b.ctx.get n).state } :=
    acceptSample_eq heard n r m rfl ret rfl
  have isMoved : movedState heard n m ret e.index = moved := by
    have steer : Safety.sampleSteer (heard.ctx.get n) (newContext heard n m ret) m e.index =
        Safety.sampleSteer c new m e.index := rfl
    rw [movedState, steer]
    simp only [moved, port]
    cases Safety.sampleSteer c new m e.index <;> simp [heard] <;> rfl
  have three : new.state = c.state ∧ b = moved ∨
      new.state ≠ c.state ∧ cause ≠ .slip ∧ b = { moved with report := Safety.withEvent s.report (some n) event } ∨
      new.state ≠ c.state ∧ cause = .slip ∧ b = moved.raiseWith (some n) .distSlip m.index event := by
    rcases transition_cases heard n m ret index with ⟨same, eq⟩ | ⟨other, noSlip, eq⟩ | ⟨other, slip, eq⟩
    · exact .inl ⟨same, eq.trans isMoved⟩
    · have found : cause = if ret then .returnFound else .returnLost := if_neg noSlip
      refine .inr (.inl ⟨other, ?_, ?_⟩)
      · rw [found]
        split <;> decide
      · rw [isMoved, ← found] at eq
        exact eq
    · have slipped : cause = .slip := if_pos slip
      rw [isMoved, ← slipped] at eq
      exact .inr (.inr ⟨other, slipped, eq⟩)
  have share : OwnShare n moved b ∧ (new.state ≠ c.state → SlotHolds n event b) ∧ (c.state = .locked → new.state = .settling →
      (s.headFaults.get n).first = none → (b.headFaults.get n).first = some ⟨.distSlip, s.time.timebase, m.index⟩) := by
    rcases three with ⟨same, eq⟩ | ⟨other, noSlip, eq⟩ | ⟨other, slip, eq⟩ <;> rw [eq]
    · exact ⟨.refl n moved, fun other => absurd same other, fun locked settling _ => by rw [locked, settling] at same; cases same⟩
    · refine ⟨ownShare_withEvent n moved event, fun _ => withEvent_slotHolds n moved event, fun locked settling _ => ?_⟩
      have found : ret = true := by
        by_contra lost
        have coasting := newContext_return_lost heard n m locked
        rw [← Bool.eq_false_iff.2 lost] at coasting
        exact CtxState.noConfusion (settling.symm.trans coasting)
      exact absurd (if_pos ⟨locked, found⟩) noSlip
    · refine ⟨ownShare_raiseWith n moved .distSlip m.index event, fun _ => raiseWith_slotHolds n moved .distSlip m.index event,
        fun _ _ none_ => ?_⟩
      rw [raiseWith_first, show (moved.headFaults.get n).first = none from none_]
      rfl
  obtain ⟨shared, slotHolds, slipFault⟩ := share
  have context : b.ctx = s.ctx.set n new := (congrArg State.ctx shared.rest :)
  rw [context, PerHead.get_set_self] at accepted
  let t : State := b.lookupSample n { m with tracking := new.state }
  have looked : OwnShare n moved t := shared.trans (ownShare_lookupSample n b _)
  have runs : exec (.sampleFrame n f) s = .next t := run.trans (congrArg _ accepted)
  refine ⟨?source, ?entry, ?notional, ⟨b, runs, ?same, ?other, ?slip⟩, t, runs, ?frame⟩
  case source =>
    have sourced : distanceSource c.state ret r.admValid = source := distanceSource_eq ⟨enabled, notParked⟩ ret r.admValid
    rw [← sourced]
    rfl
  case entry => exact fun x found => timestampOf_entry found
  case notional => exact fun absent x oldest => timestampOf_notional absent oldest
  case same =>
    intro same
    rcases three with ⟨-, eq⟩ | ⟨other, -⟩ | ⟨other, -⟩
    · exact eq
    · exact absurd same other
    · exact absurd same other
  case other =>
    intro other noSlip
    rcases three with ⟨same, -⟩ | ⟨-, -, eq⟩ | ⟨-, slip, -⟩
    · exact absurd same other
    · exact eq
    · exact absurd slip noSlip
  case slip =>
    intro other slip
    rcases three with ⟨same, -⟩ | ⟨-, noSlip, -⟩ | ⟨-, -, eq⟩
    · exact absurd same other
    · exact absurd slip noSlip
    · rw [eq]
      exact raiseWith_raisedWith moved (some n) .distSlip m.index event
  case frame =>
    have afterwards := ownShare_lookupSample n b { m with tracking := new.state }
    exact ⟨(congrArg State.ctx looked.rest :), (congrArg State.ports looked.rest :), looked.first,
      fun none_ locked settling => afterwards.first _ (slipFault locked settling none_),
      fun other => afterwards.slot event (slotHolds other), looked.others, looked.lookup, looked.mem, looked.capture,
      congrArg (fun x : State => { x with ctx := s.ctx, ports := s.ports }) looked.rest⟩

end Sys2Proof.Proofs
end

section
/-! PROOFS. Requests: how one is taken and answered, the reads and the data of their answers, and the setup requests. -/

namespace Sys2Proof.Proofs
open Sys2Proof Sys2Proof.Machine

/-! ### Taking a request -/

/-- The state with the request buffer replaced. -/
def withRequests (rest : List Request) (s : State) : State := { s with uplink := { s.uplink with requests := rest } }

section
variable {s : State} {k : ℕ} {p : List Byte → Bool} {body : State → Request → State}

theorem serve_of_idle (h : s.mgmt.inHand ≠ none ∨ s.mgmt.held ≠ none ∨ s.uplink.requests = []) : s.serve k p body = s := by
  unfold State.serve
  split
  case h_1 inHand held requests => simp [inHand, held, requests] at h
  case h_2 => rfl

theorem serve_of_other {r : Request} {rest : List Request} (next : Safety.Next s r rest)
    (other : ¬(requestKind r.payload = some k ∧ p r.payload = true)) : s.serve k p body = s := by
  obtain ⟨inHand, held, requests⟩ := next
  simp only [State.serve, inHand, held, requests, Bool.and_eq_true, decide_eq_true_eq, if_neg other]

theorem serve_badLength {r : Request} {rest : List Request} (next : Safety.Next s r rest)
    (kind : requestKind r.payload = some k) (taken : p r.payload = true) (length : lengthAdmitted k r.payload = false) :
    s.serve k p body = (withRequests rest s).giveAnswer r.tag k .badLength [] := by
  obtain ⟨inHand, held, requests⟩ := next
  simp [State.serve, inHand, held, requests, kind, taken, length, withRequests]

end

/-- A command serves the requests of a kind, and takes every one of a length its kind does not have (R169, R171). -/
def Serves (kind : ℕ) (c : Instr) : Prop :=
  ∃ p body, (∀ s : State, exec c s = .next (s.serve kind p body)) ∧ ∀ x, lengthAdmitted kind x = false → p x = true

theorem serves_any {kind : ℕ} {c : Instr} {body : State → Request → State}
    (run : ∀ s, exec c s = .next (s.serve kind anyPayload body)) : Serves kind c := ⟨_, _, run, fun _ _ => rfl⟩

theorem serves_mode {mode : ℕ} {c : Instr} {body : State → Request → State}
    (run : ∀ s, exec c s = .next (s.serve 21 (headModeOf mode) body)) : Serves 21 c :=
  ⟨_, _, run, fun x bad => by simp [headModeOf, show headModeLength x = false from bad]⟩

theorem serves_target {target : ℕ} {c : Instr} {body : State → Request → State}
    (run : ∀ s, exec c s = .next (s.serve 23 (serviceTarget target) body)) : Serves 23 c :=
  ⟨_, _, run, fun x bad => by simp [serviceTarget, show x.length ≠ 2 from of_decide_eq_false bad]⟩

/-- Each row serves the requests of its kind; the rows of HEAD_MODE and of SET_SERVICE share theirs (log 14). -/
theorem requestRow_serves : ∀ row ∈ Safety.requestRows, Serves row.1 row.2 := by
  simp only [Safety.requestRows, List.forall_mem_cons]
  exact ⟨serves_any fun _ => rfl, serves_any fun _ => rfl, serves_any fun _ => rfl, serves_any fun _ => rfl,
    serves_any fun _ => rfl, serves_any fun _ => rfl, serves_any fun _ => rfl, serves_any fun _ => rfl,
    serves_any fun _ => rfl, serves_any fun _ => rfl, serves_any fun _ => rfl, serves_any fun _ => rfl,
    serves_any fun _ => rfl, serves_any fun _ => rfl, serves_any fun _ => rfl, serves_any fun _ => rfl,
    serves_any fun _ => rfl, serves_any fun _ => rfl, serves_any fun _ => rfl, serves_any fun _ => rfl,
    serves_mode fun _ => rfl, serves_mode fun _ => rfl, serves_mode fun _ => rfl, serves_any fun _ => rfl,
    serves_target fun _ => rfl, serves_target fun _ => rfl, serves_target fun _ => rfl, serves_target fun _ => rfl,
    serves_any fun _ => rfl, nofun⟩

/-! ### Answers -/

theorem answers_iff (c : Instr) (s s' : State) (rest : List Request) (f : ReportFrame) :
    Safety.Answers c s rest f s' ↔ exec c s = .next (Safety.given (withRequests rest s') f) := Iff.rfl

/-- A command that gives an answer at once, on the state with the request taken. -/
theorem answers_of_given {c : Instr} {s s' : State} {rest : List Request} {tag : Byte} {kind : ℕ} {st : Status}
    {data : List Byte} (held : s'.mgmt.held = none)
    (run : exec c s = .next ((withRequests rest s').giveAnswer tag kind st data))
    (plain : st ≠ .ok → data = [] := by simp) :
    Safety.Answers c s rest (Safety.answer tag kind st data) s' := by
  have frame : answerFrame tag kind st data = Safety.answer tag kind st data := by
    rw [answerFrame_eq]
    split
    · rfl
    · rw [plain ‹_›]
  rw [answers_iff, run, State.giveAnswer_eq (withRequests rest s') _ _ _ _ held, frame]

/-- The exec of a row that takes a request, once the request has been taken. -/
theorem exec_taken {c : Instr} {kind : ℕ} {p : List Byte → Bool} {body : State → Request → State}
    (run : ∀ s : State, exec c s = .next (s.serve kind p body)) {s : State} {r : Request} {rest : List Request}
    (takes : Safety.Takes s kind r rest) (taken : p r.payload = true) :
    exec c s = .next (body (withRequests rest s) r) := by
  rw [run, State.serve_taken s kind p body r rest takes taken]
  rfl

/-! ### Unknown kinds and lengths -/

theorem unknownKind_idle {s : State} (h : s.mgmt.inHand ≠ none ∨ s.mgmt.held ≠ none ∨ s.uplink.requests = []) :
    exec .unknownKindRequest s = .next s := by
  show execUnknownKindRequest s = _
  unfold execUnknownKindRequest
  split
  case h_1 inHand held requests => simp [inHand, held, requests] at h
  case h_2 => rfl

theorem unknownKind_next {s : State} {r : Request} {rest : List Request} (next : Safety.Next s r rest) :
    exec .unknownKindRequest s = .next (
      match requestKind r.payload with
      | none => (withRequests rest s).giveAnswer r.tag 0 .badLength []
      | some k => if knownKind k then s else (withRequests rest s).giveAnswer r.tag k .unknownKind []) := by
  obtain ⟨inHand, held, requests⟩ := next
  show execUnknownKindRequest s = _
  simp only [execUnknownKindRequest, inHand, held, requests]
  cases requestKind r.payload <;> rfl

theorem headModeLength_iff (p : List Byte) : headModeLength p = true ↔
    p.length = 3 ∧ natAt 2 1 p ≠ 2 ∨ p.length = 11 ∧ 2 ≤ natAt 2 1 p := by
  unfold headModeLength modeByte
  split
  · simp only [Bool.false_eq_true, false_iff]
    omega
  split
  case h_4 not0 not1 not2 =>
    have other : natAt 2 1 p ≠ 0 ∧ natAt 2 1 p ≠ 1 ∧ natAt 2 1 p ≠ 2 := ⟨not0, not1, not2⟩
    simp
    omega
  all_goals
    simp
    omega

/-- Settles O38: by the serving of the rows, and the lengths kind by kind. -/
theorem requestsTakenInTurn : Obligations.RequestsTakenInTurn := by
  refine ⟨fun kind c s row idle => ?_, fun kind c s r rest row next => ?_, fun s r rest next => ?_, ?_, fun p => ?_, fun p => ?_,
    fun p => ?_, headModeLength_iff⟩
  · rcases row with row | rfl
    · obtain ⟨p, body, run, -⟩ := requestRow_serves _ row
      rw [run, serve_of_idle idle]
    · exact unknownKind_idle idle
  · obtain ⟨p, body, run, takesBad⟩ := requestRow_serves _ row
    refine ⟨fun other => ?_, fun kind length => ?_⟩
    · rw [run, serve_of_other next fun h => other h.1]
    · exact answers_of_given next.2.1 ((run s).trans (congrArg _ (serve_badLength next kind (takesBad _ length) length)))
  · refine ⟨fun empty => ?_, fun k kind => ⟨fun unknown => ?_, fun lo hi => ?_⟩⟩
    · have noKind : requestKind r.payload = none := by rw [empty]; rfl
      refine answers_of_given next.2.1 ((unknownKind_next next).trans ?_)
      rw [noKind]
    · have notKnown : knownKind k = false := by simp [knownKind]; omega
      refine answers_of_given next.2.1 ((unknownKind_next next).trans ?_)
      simp only [kind, notKnown, Bool.false_eq_true, if_false]
    · have known : knownKind k = true := by simp [knownKind]; omega
      rw [unknownKind_next next]
      simp only [kind, known, if_true]
  · simp only [List.mem_cons, Prod.mk.injEq, List.not_mem_nil, or_false]
    rintro k n (⟨rfl, rfl⟩ | ⟨rfl, rfl⟩ | ⟨rfl, rfl⟩ | ⟨rfl, rfl⟩ | ⟨rfl, rfl⟩ | ⟨rfl, rfl⟩ | ⟨rfl, rfl⟩ | ⟨rfl, rfl⟩ |
      ⟨rfl, rfl⟩ | ⟨rfl, rfl⟩ | ⟨rfl, rfl⟩ | ⟨rfl, rfl⟩ | ⟨rfl, rfl⟩ | ⟨rfl, rfl⟩ | ⟨rfl, rfl⟩ | ⟨rfl, rfl⟩ | ⟨rfl, rfl⟩ |
      ⟨rfl, rfl⟩ | ⟨rfl, rfl⟩ | ⟨rfl, rfl⟩) p <;> exact decide_eq_true_iff
  · simp [lengthAdmitted, and_assoc]
  · simp [lengthAdmitted, and_assoc]
  · simp [lengthAdmitted]

end Sys2Proof.Proofs
end

section
/-! PROOFS. The reads: their answers, and the items of their data. -/

namespace Sys2Proof.Proofs
open Sys2Proof Sys2Proof.Machine

/-! ### Answers of reads -/

/-- A read's answer: OK with its data, or BAD_VALUE where there is none. -/
def readFrame (tag : Byte) (kind : ℕ) : Option (List Byte) → ReportFrame
  | some d => Safety.answer tag kind .ok d
  | none => Safety.answer tag kind .badValue []

theorem answers_of_read {c : Instr} {s s' : State} {rest : List Request} {tag : Byte} {kind : ℕ} {data : Option (List Byte)}
    (held : s'.mgmt.held = none) (run : exec c s = .next ((withRequests rest s').answerRead tag kind data)) :
    Safety.Answers c s rest (readFrame tag kind data) s' := by
  cases data with
  | none => exact answers_of_given held run
  | some d => exact answers_of_given held run

/-- READ_CELL of a record that is not there, valid or invalid (R62, R174; log 10). -/
theorem readCell_answers {s : State} {r : Request} {rest : List Request} (takes : Safety.Takes s 4 r rest) :
    let answers (data : Option (List Byte)) (s' : State) : Prop :=
      Safety.Answers .readCell s rest (readFrame r.tag 4 data) s'
    let i := natAt 1 1 r.payload
    (32 ≤ i → answers none s) ∧
    (∀ c key, s.lookup.records[i]? = some (some c) → i < 32 → answers (cellData key (some c) (natAt 2 1 r.payload)) s) ∧
    (s.lookup.records[i]? = some none → i < 32 → ∃ key,
      answers (cellData key none (natAt 2 1 r.payload)) { s with freeCount := s.freeCount + 1 }) := by
  intro answers i
  obtain ⟨⟨-, held, -⟩, -, -⟩ := id takes
  have run := exec_taken (c := .readCell) (fun _ => rfl) takes rfl
  have at_ {o : Option CellRecord} (h : s.lookup.records[i]? = some o) :
      recordAt (withRequests rest s).lookup.records (natAt 1 1 r.payload) = o := by
    rw [recordAt, List.getD_eq_getElem?_getD]
    exact congrArg (Option.getD · none) h
  refine ⟨fun none_ => ?_, fun c key record inCache => ?_, fun record inCache => ⟨Config.unstatedCellKey s.freeCount, ?_⟩⟩
  · refine answers_of_read held (run.trans ?_)
    rw [if_neg (Nat.not_lt.2 none_)]
  · refine answers_of_read held (run.trans ?_)
    rw [if_pos inCache, at_ record]
    rfl
  · refine answers_of_read (s' := { s with freeCount := s.freeCount + 1 }) held (run.trans ?_)
    rw [if_pos inCache, at_ record]
    rfl

/-! ### Items -/

theorem padTo_eq_take (n : ℕ) (bs : List Byte) : padTo n bs = (bs ++ List.replicate n 0).take n := by
  rw [padTo, List.take_append, List.take_replicate]
  congr 2
  omega

theorem optItem_length {w : ℕ} {o : Option (List Byte)} (h : ∀ bs ∈ o, bs.length = w) : (optItem w o).length = w + 1 := by
  cases o with
  | none => simp [optItem]
  | some bs => simp [optItem, h bs rfl]

@[simp] theorem optItem_map_length {α : Type} {w : ℕ} (o : Option α) {f : α → List Byte} (h : ∀ a, (f a).length = w) :
    (optItem w (o.map f)).length = w + 1 := by
  cases o <;> simp [optItem, h]

theorem listItem_length (most w : ℕ) (es : List (List Byte)) : (listItem most w es).length = most * w + 1 := by
  simp [listItem]

@[simp] theorem n1_length (v : ℕ) : (n1 v).length = 1 := natLE_length 1 v

@[simp] theorem n2_length (v : ℕ) : (n2 v).length = 2 := natLE_length 2 v

@[simp] theorem n4_length (v : ℕ) : (n4 v).length = 4 := natLE_length 4 v

@[simp] theorem n8_length (v : ℕ) : (n8 v).length = 8 := natLE_length 8 v

theorem partData_length (s : State) (k : ℕ) : (partData s k).map List.length = [16, 35, 21, 21][k]? := by
  match k with
  | 0 => simp [partData, partPorts, eachHead]
  | 1 => simp [partData, partTable]
  | 2 => simp [partData, partMemory]
  | 3 => simp [partData, partReport, eachHead]
  | k + 4 => rfl

theorem headSettings_length (m : Measure) (t : TrackSettings) (d : Decimation) (q : SettleQueue) :
    (headSettings m t d q).length = 45 := by
  have candidate (o : Option Candidate) :
      (optItem 5 (o.map fun c => natLE 2 c.id ++ natLE 2 c.bucket ++ natLE 1 c.slot.code)).length = 6 :=
    optItem_map_length o fun c => by simp
  have pose (o : Option ℕ) : (optItem 2 (o.map n2)).length = 3 := optItem_map_length o n2_length
  unfold headSettings
  simp only [List.length_append, candidate, pose, n1, n2, n4, natLE_length, intLE_length]

theorem headData_length (s : State) (n : Head) (k : ℕ) : (headData s n k).map List.length = [48, 52, 45, 50][k]? := by
  match k with
  | 0 => simp [headData, headContext, lockedItem]
  | 1 =>
    have trigger (t : Option TriggerRecord) : (triggerItem t).length = 13 := by cases t <;> simp [triggerItem]
    simp [headData, headSearch, searchItem, latestItem, trigger]
  | 2 => simp only [headData, Option.map_some, headSettings_length]; rfl
  | 3 => simp [headData, headPose, vecLE_length]
  | k + 4 => rfl

theorem epochItem_length (t : ℕ) : (epochItem t).length = 8 := by
  unfold epochItem
  split <;> exact natLE_length 8 _

theorem timeData_length (s : State) (k : ℕ) : (timeData s k).map List.length = [35, 48, 51, 51, 51, 51][k]? := by
  have history (n : Head) : (timeHistory s n).length = 51 := by simp [timeHistory, listItem_length]
  match k with
  | 0 => simp [timeData, timeState, epochItem_length]
  | 1 => simp [timeData, timePhases, eachHead]
  | 2 | 3 | 4 | 5 => simp [timeData, headOf, history]
  | k + 6 => simp [timeData, headOf]

theorem cellMarks_length (key : BitVec 48) (c : Option CellRecord) : (cellMarks key c).length = 10 := by
  cases c <;> simp [cellMarks, keyItem]

theorem pointItem_length (p : Point) : (pointItem p).length = 27 := by simp [pointItem, vecLE_length]

theorem cellData_length (key : BitVec 48) (c : Option CellRecord) (k : ℕ) :
    (cellData key c k).map List.length = [20, 38, 38, 38, 38][k]? := by
  match k with
  | 0 => simp [cellData, cellMarks_length, listItem_length]
  | 1 | 2 | 3 | 4 => simp [cellData, cellMarks_length, pointItem_length]
  | k + 5 => simp [cellData]

theorem faultData_length (f : FaultRecord) : (faultData f).length = 27 := by
  cases first : f.first <;> simp [faultData, first, listItem_length]

/-! ### The order of the items -/

theorem optItem_eq (w : ℕ) (o : Option (List Byte)) : optItem w o = match o with
    | some bs => 1 :: bs
    | none => 0 :: List.replicate w 0 := by cases o <;> rfl

theorem listItem_map (most w : ℕ) {α : Type} (l : List α) (f : α → List Byte) : listItem most w (l.map f) =
    byteOf l.length :: (l.flatMap f ++ List.replicate (most * w) 0).take (most * w) := by
  rw [listItem, padTo_eq_take, List.length_map, List.flatMap_def]

theorem cellData_listed (key : BitVec 48) (c : CellRecord) : cellData key (some c) 0 = some (cellMarks key (some c) ++
    (byteOf c.visited.length :: ((c.visited.flatMap fun b => natLE 2 b) ++ List.replicate 8 0).take 8) ++
      [byteOf c.points.length]) := by
  show some (cellMarks key (some c) ++ listItem 4 2 (c.visited.map n2) ++ n1 c.points.length) = _
  rw [listItem_map]
  rfl

theorem pointItem_eq (p : Point) : pointItem p = natLE 2 p.bucket ++ natLE 1 p.slot.code ++ natLE 2 p.id ++
    intLE 4 p.nominal.x ++ intLE 4 p.nominal.y ++ intLE 4 p.nominal.z ++ natLE 2 p.tolerance ++ natLE 1 p.settle ++
      natLE 1 p.mode.code ++ natLE 1 p.state.code ++ natLE 1 p.capHead ++ natLE 4 p.capNumber := by
  simp only [pointItem, vecLE, n1, n2, n4, List.append_assoc]

theorem cellData_point (key : BitVec 48) (c : CellRecord) {k : ℕ} (h : k < 4) :
    cellData key (some c) (k + 1) = some (cellMarks key (some c) ++ optItem 27 (c.points[k]?.map pointItem)) := if_pos h

theorem cellData_invalid_point (key : BitVec 48) {k : ℕ} (h : k < 4) :
    cellData key none (k + 1) = some (cellMarks key none ++ List.replicate 28 0) := if_pos h

theorem faultData_some (first : FirstFault) {further : List FaultKind} (few : further.length ≤ 8) :
    faultData ⟨some first, further⟩ =
      [1, byteOf first.kind.code] ++ natLE 8 first.time ++ natLE 8 first.detail ++ [byteOf further.length] ++
        further.map (fun k => byteOf k.code) ++ List.replicate (8 - further.length) 0 := by
  have bytes : (further.map fun k => n1 k.code).flatten = further.map fun k => byteOf k.code := by
    rw [← List.flatMap_def]
    exact List.flatMap_pure_eq_map _ further
  have item : listItem 8 1 (further.map fun k => n1 k.code) =
      byteOf further.length :: (further.map (fun k => byteOf k.code) ++ List.replicate (8 - further.length) 0) := by
    rw [listItem, List.length_map, bytes, padTo, List.length_map, Nat.mul_one,
      List.take_of_length_le (by rw [List.length_map]; exact few)]
  rw [faultData, item]
  simp only [n1, n8, List.append_assoc]
  rfl

theorem headSettings_items (m : Measure) (t : TrackSettings) (d : Decimation) (q : SettleQueue) :
    headSettings m t d q = natLE 4 m.countScale ++ natLE 1 m.deadband ++ natLE 4 m.distanceMax ++ intLE 8 m.anchor ++
      natLE 1 t.threshold ++ natLE 1 t.coastLimit ++ natLE 1 t.settleSelect ++ natLE 2 t.searchStep ++
      natLE 1 t.searchRings ++ natLE 1 t.searchDwell ++ natLE 4 t.maxRate ++ natLE 2 t.slipLimit ++
      natLE 1 t.silenceLimit ++ natLE 1 d.configured ++ natLE 1 d.effective ++ natLE 1 d.count ++
      natLE 1 q.entries.length ++
      optItem 5 (q.candidate.map fun x => natLE 2 x.id ++ natLE 2 x.bucket ++ natLE 1 x.slot.code) ++
      optItem 2 (q.poseGen.map (natLE 2)) ++
      natLE 1 (q.entries.reverse.takeWhile fun e => e.inWindow).length := by
  have oneByte : n1 = natLE 1 := rfl
  have twoBytes : n2 = natLE 2 := rfl
  have fourBytes : n4 = natLE 4 := rfl
  unfold headSettings
  rw [oneByte, twoBytes, fourBytes]
  congr 1

/-- Settles O39: each read by its data, and each datum item by item. -/
theorem readsAnswered : Obligations.ReadsAnswered := by
  refine ⟨fun s r rest => ?_, fun s n f key c k => ⟨partData_length s k, headData_length s n k, timeData_length s k,
    cellData_length key c k, faultData_length f⟩, fun s => ?_, ?_, fun s n => ?_, fun first further few =>
      faultData_some first few, rfl⟩
  · intro p reads
    refine ⟨fun takes => ?_, fun takes => ?_, fun takes => ?_, fun takes => readCell_answers takes, fun takes => ?_⟩
    · exact answers_of_read takes.1.2.1 ((exec_taken (c := .readPart) (fun _ => rfl) takes rfl).trans rfl)
    · refine answers_of_read takes.1.2.1 ((exec_taken (c := .readHead) (fun _ => rfl) takes rfl).trans ?_)
      simp only [paramHead, p]
      cases headOf (natAt 1 1 r.payload) <;> rfl
    · exact answers_of_read takes.1.2.1 ((exec_taken (c := .readTime) (fun _ => rfl) takes rfl).trans rfl)
    · refine answers_of_read takes.1.2.1 ((exec_taken (c := .readFault) (fun _ => rfl) takes rfl).trans ?_)
      simp only [paramSubject, p]
      split
      · rfl
      · cases headOf (natAt 1 1 r.payload) <;> rfl
  · intro mark opt each l sp m r t
    have opt_eq : opt = optItem := by
      funext w o
      cases o <;> rfl
    rw [opt_eq]
    refine ⟨rfl, ?table, ?memory, ?report, ⟨epochItem t.nextEpoch, epochItem_length _, fun h => if_pos h, ?time⟩, ?phases,
      ⟨rfl, rfl, rfl, rfl⟩, fun n => ?_, fun key c k => ?_⟩
    case table =>
      rw [show partData s 1 = some (partTable s) from rfl, partTable]
      simp only [n1, n2, n4, drainsOutstanding]
      cases s.capture.nextNumber <;> rfl
    case memory =>
      rw [show partData s 2 = some (partMemory s) from rfl, partMemory]
      simp only [n1, n2, State.access, Option.map_map]
      congr 7
      cases s.mem.running with
      | none => rfl
      | some q =>
        rcases q with ⟨access, granted, duration⟩
        cases access <;> rfl
    case report =>
      rw [show partData s 3 = some (partReport s) from rfl, partReport]
      simp only [n1]
      cases s.report.visiting <;> rfl
    case time =>
      rw [show timeData s 0 = some (timeState s.time) from rfl, timeState]
      simp only [n1, n2, n4, n8]
      rfl
    case phases =>
      rw [show timeData s 1 = some (timePhases s) from rfl, timePhases]
      cases s.time.pendingSync <;> rfl
    · intro c q set d settle locked vec
      refine ⟨?context, ?search, ?settings, ?pose⟩
      case context =>
        rw [show headData s n 0 = some (headContext c) from rfl, headContext]
        rfl
      case search =>
        rw [show headData s n 1 = some (headSearch c (s.headTime.get n)) from rfl, headSearch]
        cases trigger : (s.headTime.get n).trigger <;> rfl
      case settings =>
        rw [show headData s n 2 = some (headSettings q set d settle) from rfl]
        exact congrArg some (headSettings_items ..)
      case pose =>
        rw [show headData s n 3 = some (headPose q) from rfl, headPose]
        rfl
    · intro marks none_
      refine ⟨cellData_listed key c, rfl, fun h => ⟨?_, cellData_invalid_point key h⟩⟩
      rw [cellData_point key c h, funext pointItem_eq]
      rfl
  · refine ⟨by decide, by decide, by decide, by decide, rfl, rfl, rfl, rfl, rfl, fun _ => rfl⟩
  · rw [timeHistory, listItem_map]
    rfl

end Sys2Proof.Proofs
end

section
/-! PROOFS. The setup requests: SYNC_CONFIG, SET_ARBITER, MEM_CONFIG, SPILL_CONFIG, HEAD_CONFIG, WRITE_COMP, WRITE_POSE. -/

namespace Sys2Proof.Proofs
open Sys2Proof Sys2Proof.Machine

/-! ### Settings of the part -/

theorem overlap_iff (a n b m : ℕ) : overlap a n b m = true ↔ a < b + m ∧ b < a + n := by simp [overlap]

/-- The first status of R104 that applies, and none where the ring may be placed. -/
theorem spillTests_eq (s : State) (base : ℕ) : s.spillTests base =
    if s.service ≠ .start ∧ s.service ≠ .hold then some .wrongState
    else if 0 < s.spill.count ∨ s.capture.attempt ≠ none ∨ s.spill.writes ≠ [] ∨ s.spill.drains ≠ [] then some .wrongState
    else if base % 32768 ≠ 0 then some .align
    else if 67108864 ≤ base then some .address
    else if s.lookup.configured = true ∧ base < s.lookup.base + s.lookup.bucketCount * 64 ∧
      s.lookup.base < base + 32768 then some .address
    else none := by
  have barred : (!s.configurable) = true ↔ s.service ≠ .start ∧ s.service ≠ .hold := by simp [State.configurable]
  have busy : (decide (s.spill.count > 0) || s.capture.attempt.isSome || !s.spill.writes.isEmpty || !s.spill.drains.isEmpty) =
      true ↔ 0 < s.spill.count ∨ s.capture.attempt ≠ none ∨ s.spill.writes ≠ [] ∨ s.spill.drains ≠ [] := by
    simp [Option.isSome_iff_ne_none, or_assoc]
  have meets : (s.lookup.configured && overlap base Config.ringBytes s.lookup.base (tableBytes s.lookup.bucketCount)) = true ↔
      s.lookup.configured = true ∧ base < s.lookup.base + s.lookup.bucketCount * 64 ∧ s.lookup.base < base + 32768 := by
    rw [Bool.and_eq_true, overlap_iff]
    rfl
  simp only [State.spillTests, barred, busy, meets]

/-- Settles O40: each row's answer, by its tests and what it stores. -/
theorem partSettingsStored : Obligations.PartSettingsStored := by
  intro s r rest p answered
  refine ⟨fun takes => ?_, fun takes => ?_, fun takes => ?_, fun takes => ?_⟩
  · refine answers_of_given takes.1.2.1 ((exec_taken (c := .syncConfig) (fun _ => rfl) takes rfl).trans ?_)
    rw [paramSync, clampNat_eq (by decide)]
    rfl
  · exact answers_of_given takes.1.2.1 ((exec_taken (c := .setArbiter) (fun _ => rfl) takes rfl).trans rfl)
  · have run := exec_taken (c := .memConfig) (fun _ => rfl) takes rfl
    refine ⟨fun other => ?_, fun start unknown => ?_, fun start i code => ?_⟩
    · exact answers_of_given takes.1.2.1 (run.trans (congrArg _ (if_pos other)))
    · have noCode : paramInterleave r.payload = none := by
        unfold paramInterleave
        split
        case h_5 => rfl
        all_goals
          rename_i is
          exact absurd unknown (by rw [show natAt 1 1 p = _ from is]; decide)
      refine answers_of_given takes.1.2.1 (run.trans (congrArg _ ((if_neg (not_not.2 start)).trans ?_)))
      rw [noCode]
    · have isCode : paramInterleave r.payload = some i := by
        simp only [List.mem_cons, Prod.mk.injEq, List.not_mem_nil, or_false] at code
        rcases code with ⟨is, rfl⟩ | ⟨is, rfl⟩ | ⟨is, rfl⟩ | ⟨is, rfl⟩ <;>
          simp only [paramInterleave, show natAt 1 1 r.payload = _ from is]
      refine answers_of_given takes.1.2.1 (run.trans (congrArg _ ((if_neg (not_not.2 start)).trans ?_)))
      simp only [isCode, paramInterval, paramTiming, clampNat_eq (show (1 : ℕ) ≤ 64 by decide),
        clampNat_eq (show (10 : ℕ) ≤ 60 by decide), clampNat_eq (show (10 : ℕ) ≤ 80 by decide),
        clampNat_eq (show (60 : ℕ) ≤ 350 by decide), clampNat_eq (show (100 : ℕ) ≤ 1000 by decide)]
      rfl
  · intro base st
    have run := exec_taken (c := .spillConfig) (fun _ => rfl) takes rfl
    have tests : (withRequests rest s).spillTests base = if st = .ok then none else some st := by
      rw [spillTests_eq]
      simp only [st]
      split_ifs <;> trivial
    refine answers_of_given ?_ (run.trans ?_) fun _ => rfl
    · by_cases ok : st = .ok <;> simp [ok, takes.1.2.1]
    · simp only [show natAt 1 4 r.payload = base from rfl, tests]
      by_cases ok : st = .ok
      · simp only [ok, if_true]
        rfl
      · simp only [ok, if_false]

/-! ### Settings of a head -/

theorem headOf_headNumber {n : Head} {k : ℕ} (h : headNumber n = k) : headOf k = some n := by
  subst h
  cases n <;> rfl

theorem headOf_of_large {k : ℕ} (h : 3 < k) : headOf k = none := by
  match k, h with
  | k + 4, _ => rfl

section
variable {s : State} {r : Request} {rest : List Request}

theorem headConfig_stores (takes : Safety.Takes s 8 r rest) :
    let p := r.payload
    let byte (lo hi off len : Nat) : Nat := max lo (min hi (natAt off len p))
    (3 < natAt 1 1 p ∨ natAt 2 4 p = 0 → Safety.Answers .headConfig s rest (Safety.answer r.tag 8 .badValue []) s) ∧
    (∀ n, headNumber n = natAt 1 1 p → 0 < natAt 2 4 p →
      Safety.Answers .headConfig s rest (Safety.answer r.tag 8 .ok []) { s with
        measure := s.measure.set n { s.measure.get n with
          countScale := natAt 2 4 p, deadband := byte 0 15 7 1, distanceMax := byte 1000000 120000000 8 4 }
        settings := s.settings.set n ⟨byte 1 255 6 1, byte 1 255 12 1, byte 0 3 13 1, byte 1 65535 14 2, byte 1 32 16 1,
          byte 1 16 17 1, byte 1 1000000 18 4, byte 1 65535 22 2, byte 1 255 24 1⟩
        report := { s.report with decimation := s.report.decimation.set n { s.report.decimation.get n with
          configured := byte 1 64 25 1, effective := byte 1 64 25 1 } }
        headTime := s.headTime.set n { s.headTime.get n with window := byte 1 4095 26 2 } }) := by
  intro p byte
  have run := exec_taken (c := .headConfig) (fun _ => rfl) takes rfl
  have scale : paramScale r.payload = natAt 2 4 p := rfl
  refine ⟨fun bad => ?_, fun n head counts => ?_⟩
  · refine answers_of_given takes.1.2.1 (run.trans (congrArg _ ?_))
    rcases bad with large | zero
    · rw [paramHead, headOf_of_large large]
    · cases paramHead r.payload with
      | none => rfl
      | some n => exact if_pos zero
  · refine answers_of_given takes.1.2.1 (run.trans (congrArg _ ?_))
    rw [paramHead, headOf_headNumber head]
    simp only [scale]
    rw [if_neg (Nat.pos_iff_ne_zero.1 counts)]
    simp only [State.configureHead, paramMeasure, paramSettings, paramDecimation, paramWindow, scale,
      clampNat_eq (show (0 : ℕ) ≤ 15 by decide), clampNat_eq (show (0 : ℕ) ≤ 3 by decide),
      clampNat_eq (show (1 : ℕ) ≤ 255 by decide), clampNat_eq (show (1 : ℕ) ≤ 65535 by decide),
      clampNat_eq (show (1 : ℕ) ≤ 32 by decide), clampNat_eq (show (1 : ℕ) ≤ 16 by decide),
      clampNat_eq (show (1 : ℕ) ≤ 64 by decide), clampNat_eq (show (1 : ℕ) ≤ 1000000 by decide),
      clampNat_eq (show (1 : ℕ) ≤ 4095 by decide), clampNat_eq (show (1000000 : ℕ) ≤ 120000000 by decide)]
    rfl

theorem writeComp_stores (takes : Safety.Takes s 9 r rest) :
    let p := r.payload
    let axis := natAt 2 1 p
    let first := natAt 3 1 p
    let entries := (List.range ((p.length - 4) / 2)).map fun i => intAt (4 + 2 * i) 2 p
    let written (t : List Int) : List Int := t.take first ++ entries ++ t.drop (first + entries.length)
    (3 < natAt 1 1 p ∨ 1 < axis ∨ 256 < first + entries.length →
      Safety.Answers .writeComp s rest (Safety.answer r.tag 9 .badValue []) s) ∧
    (∀ n, headNumber n = natAt 1 1 p → axis ≤ 1 → first + entries.length ≤ 256 →
      Safety.Answers .writeComp s rest (Safety.answer r.tag 9 .ok []) { s with
        measure := s.measure.set n (if axis = 0
          then { s.measure.get n with compAz := written (s.measure.get n).compAz }
          else { s.measure.get n with compEl := written (s.measure.get n).compEl }) }) := by
  intro p axis first entries written
  have run := exec_taken (c := .writeComp) (fun _ => rfl) takes rfl
  have beyond : (decide (natAt 2 1 r.payload > 1) || decide (natAt 3 1 r.payload + (paramEntries r.payload).length > 256)) =
      true ↔ 1 < axis ∨ 256 < first + entries.length := by
    rw [Bool.or_eq_true, decide_eq_true_eq, decide_eq_true_eq]
    rfl
  simp only [beyond] at run
  refine ⟨fun bad => ?_, fun n head side fits => ?_⟩
  · refine answers_of_given takes.1.2.1 (run.trans (congrArg _ ?_))
    rcases bad with large | beyond
    · rw [paramHead, headOf_of_large large]
    · cases paramHead r.payload with
      | none => rfl
      | some n => exact if_pos beyond
  · refine answers_of_given takes.1.2.1 (run.trans (congrArg _ ?_))
    rw [paramHead, headOf_headNumber head]
    exact if_neg fun bad => bad.elim (Nat.not_lt.2 side) (Nat.not_lt.2 fits)

end

/-! ### The request buffer and the hand-on of samples -/

theorem choose_withRequests (u : Uplink) (q : List ReportFrame) (rest : List Request) :
    Uplink.choose { u with requests := rest } q = { u.choose q with requests := rest } := by
  simp only [Uplink.choose]
  split
  · rfl
  · split
    · split <;> rfl
    all_goals rfl

theorem enqueue_withRequests (rest : List Request) (s : State) (f : ReportFrame) :
    (withRequests rest s).enqueue f = withRequests rest (s.enqueue f) := by
  rw [State.enqueue_eq, State.enqueue_eq]
  exact congrArg (fun u => { s with report := Safety.risen { s.report with queue := s.report.queue ++ [f] }, uplink := u })
    (choose_withRequests s.uplink _ rest)

/-- Handing a sample on does not touch the request buffer and does not read it. -/
theorem reportSample_withRequests (rest : List Request) (s : State) (n : Head) (h : Handed) :
    (withRequests rest s).reportSample n h = withRequests rest (s.reportSample n h) := by
  rw [reportSample_eq, reportSample_eq, show (withRequests rest s).report = s.report from rfl]
  dsimp only
  split_ifs
  · exact enqueue_withRequests rest (s.setDecimation n _) _
  · rfl
  · rfl

theorem toCapture_withRequests (rest : List Request) (s : State) (n : Head) (h : Handed) :
    (withRequests rest s).toCapture n h = withRequests rest (s.toCapture n h) := by
  have eligible : (withRequests rest s).eligible h = s.eligible h := rfl
  have waits : (withRequests rest s).attemptWaits n = s.attemptWaits n := rfl
  unfold State.toCapture
  rw [waits]
  split
  · rfl
  unfold State.settleWork
  rw [eligible]
  cases s.eligible h with
  | none => exact reportSample_withRequests rest (s.clearSettle n) n h
  | some bp =>
    rw [show (withRequests rest s).settle = s.settle from rfl]
    dsimp only
    split
    · rfl
    · exact reportSample_withRequests rest (s.setSettle n _) n h

theorem endAttempt_withRequests (rest : List Request) (s : State) (a : Attempt) :
    (withRequests rest s).endAttempt a = withRequests rest (s.endAttempt a) := by
  have follow (l : List Handed) (t : State) : l.foldl (fun t h => t.toCapture a.head h) (withRequests rest t) =
      withRequests rest (l.foldl (fun t h => t.toCapture a.head h) t) :=
    List.foldl_hom (withRequests rest) fun t h => toCapture_withRequests rest t a.head h
  rw [State.endAttempt, reportSample_withRequests]
  exact follow ((s.reportSample a.head a.handed).behind.get a.head) ((s.reportSample a.head a.handed).setBehind a.head [])

/-! ### Attempts dropped -/

/-- The attempts of heads other than n that wait. -/
def othersAttempts (n : Head) (s : State) : List Attempt := s.capture.waiting.filter fun a => a.head ≠ n

theorem reportSample_capture (s : State) (n : Head) (h : Handed) : (s.reportSample n h).capture = s.capture := by simp

theorem toCapture_othersAttempts (s : State) (n : Head) (h : Handed) :
    othersAttempts n (s.toCapture n h) = othersAttempts n s := by
  unfold State.toCapture
  split
  · rfl
  unfold State.settleWork othersAttempts
  split
  · rw [reportSample_capture]
    rfl
  · dsimp only
    split
    · simp
    · rw [reportSample_capture]
      rfl

theorem ownShare_followBehind (n : Head) (s : State) :
    OwnShare n s (s.followBehind n) ∧ othersAttempts n (s.followBehind n) = othersAttempts n s := by
  have follow (l : List Handed) (t : State) : OwnShare n t (l.foldl (fun t h => t.toCapture n h) t) ∧
      othersAttempts n (l.foldl (fun t h => t.toCapture n h) t) = othersAttempts n t := by
    induction l generalizing t with
    | nil => exact ⟨.refl n t, rfl⟩
    | cons h l ih =>
      obtain ⟨share, others⟩ := ih (t.toCapture n h)
      exact ⟨(ownShare_toCapture n t h).trans share, others.trans (toCapture_othersAttempts t n h)⟩
  obtain ⟨share, others⟩ := follow (s.behind.get n) (s.setBehind n [])
  exact ⟨(ownShare_setBehind n s []).trans share, others⟩

theorem ownShare_endAttempt {n : Head} (s : State) {a : Attempt} (own : a.head = n) :
    OwnShare n s (s.endAttempt a) ∧ othersAttempts n (s.endAttempt a) = othersAttempts n s := by
  subst own
  obtain ⟨share, others⟩ := ownShare_followBehind a.head (s.reportSample a.head a.handed)
  exact ⟨(ownShare_reportSample a.head s a.handed).trans share,
    others.trans (congrArg (fun c : Capture => c.waiting.filter _) (reportSample_capture s a.head a.handed))⟩

/-- With no sample behind it, the end of an attempt hands its sample on and does no more. -/
theorem endAttempt_alone {s : State} {a : Attempt} (alone : s.behind.get a.head = []) :
    s.endAttempt a = s.reportSample a.head a.handed := by
  have behind : (s.reportSample a.head a.handed).behind = s.behind := by simp
  rw [State.endAttempt, State.followBehind, behind, alone, List.foldl_nil, State.setBehind, behind]
  rw [← alone, PerHead.set_get, ← behind]

theorem endAttempts_alone {n : Head} {l : List Attempt} (own : ∀ a ∈ l, a.head = n) {s : State} (alone : s.behind.get n = []) :
    l.foldl State.endAttempt s = l.foldl (fun b a => b.reportSample n a.handed) s := by
  induction l generalizing s with
  | nil => rfl
  | cons a l ih =>
    obtain ⟨head, tail⟩ := List.forall_mem_cons.1 own
    rw [List.foldl_cons, List.foldl_cons, endAttempt_alone (head ▸ alone), head]
    exact ih tail (by simpa using alone)

theorem ownShare_endAttempts {n : Head} {l : List Attempt} (own : ∀ a ∈ l, a.head = n) (s : State) :
    OwnShare n s (l.foldl State.endAttempt s) ∧ othersAttempts n (l.foldl State.endAttempt s) = othersAttempts n s := by
  induction l generalizing s with
  | nil => exact ⟨.refl n s, rfl⟩
  | cons a l ih =>
    obtain ⟨head, tail⟩ := List.forall_mem_cons.1 own
    obtain ⟨share, others⟩ := ownShare_endAttempt s head
    obtain ⟨share', others'⟩ := ih tail (s.endAttempt a)
    exact ⟨share.trans share', others'.trans others⟩

theorem endAttempts_withRequests (rest : List Request) (l : List Attempt) (s : State) :
    l.foldl State.endAttempt (withRequests rest s) = withRequests rest (l.foldl State.endAttempt s) :=
  List.foldl_hom (withRequests rest) fun s a => endAttempt_withRequests rest s a

/-- From s to t nothing has changed but what the hand-on of samples touches: settle queues, the samples behind attempts, the
attempts that wait, the report unit and the uplink. -/
structure SamplesHanded (s t : State) : Prop where
  capture : { t.capture with waiting := s.capture.waiting } = s.capture
  rest : { t with
    settle := s.settle, behind := s.behind, capture := s.capture, report := s.report, uplink := s.uplink } = s

theorem SamplesHanded.refl (s : State) : SamplesHanded s s := ⟨rfl, rfl⟩

theorem SamplesHanded.trans {s t u : State} (a : SamplesHanded s t) (b : SamplesHanded t u) : SamplesHanded s u where
  capture := by
    rw [← a.capture]
    exact congrArg (fun c : Capture => { c with waiting := s.capture.waiting }) b.capture
  rest := by
    rw [← a.rest]
    exact congrArg (fun x : State => { x with
      settle := s.settle, behind := s.behind, capture := s.capture, report := s.report, uplink := s.uplink }) b.rest

theorem samplesHanded_foldl {α : Type} {f : State → α → State} (h : ∀ s a, SamplesHanded s (f s a)) (l : List α) (s : State) :
    SamplesHanded s (l.foldl f s) := by
  induction l generalizing s with
  | nil => exact .refl s
  | cons a l ih => exact (h s a).trans (ih (f s a))

theorem samplesHanded_toCapture (s : State) (n : Head) (h : Handed) : SamplesHanded s (s.toCapture n h) :=
  ⟨(ownShare_toCapture n s h).capture, by simp⟩

theorem samplesHanded_endAttempt (s : State) (a : Attempt) : SamplesHanded s (s.endAttempt a) :=
  ⟨(ownShare_endAttempt s rfl).1.capture, by simp⟩

/-! ### What an answer leaves -/

/-- The request in hand has its answer. -/
theorem given_answered (s : State) (f : ReportFrame) : Safety.Answered (Safety.given s f) f := by
  unfold Safety.given
  split
  · exact ⟨rfl, .inl ⟨by rw [risen_queue]; exact List.getLast?_concat, rfl⟩⟩
  · exact ⟨rfl, .inr rfl⟩

theorem choose_requests (u : Uplink) (q : List ReportFrame) : (u.choose q).requests = u.requests := by
  have same := congrArg Uplink.requests (choose_withRequests u q u.requests)
  exact same

theorem given_requests (s : State) (f : ReportFrame) : (Safety.given s f).uplink.requests = s.uplink.requests := by
  unfold Safety.given
  split
  · exact choose_requests _ _
  · rfl

/-- An answer touches the report unit, the uplink and the management unit alone. -/
theorem given_rest (s : State) (f : ReportFrame) :
    { Safety.given s f with report := s.report, uplink := s.uplink, mgmt := s.mgmt } = s := by
  unfold Safety.given
  split <;> rfl

/-! ### WRITE_POSE -/

/-- Head n's pose stored with the next pose generation, its settle queue cleared and its attempts no longer waiting. -/
def poseStored (s : State) (n : Head) (pose : Rotation × Vec3) : State := { s with
  measure := s.measure.set n { s.measure.get n with
    rotation := pose.1, translation := pose.2, poseGen := ((s.measure.get n).poseGen + 1) % 65536 }
  settle := s.settle.set n ⟨[], none, none⟩
  capture := { s.capture with waiting := s.capture.waiting.filter fun a => a.head ≠ n } }

theorem storePose_eq (s : State) (n : Head) (pose : Rotation × Vec3) : s.storePose n pose =
    (s.capture.waiting.filter fun a => a.head = n).foldl State.endAttempt (poseStored s n pose) := by
  have others : (fun a : Attempt => !decide (a.head = n)) = fun a => decide (a.head ≠ n) := by
    funext a
    rw [decide_not]
  simp only [State.storePose, State.dropAttempts, others]
  rfl

theorem writePose_answers {s : State} {r : Request} {rest : List Request} (takes : Safety.Takes s 10 r rest) {n : Head}
    (head : headNumber n = natAt 1 1 r.payload) : Safety.Answers .writePose s rest
      (Safety.answer r.tag 10 .ok (natLE 2 (((s.measure.get n).poseGen + 1) % 65536)))
      ((s.capture.waiting.filter fun a => a.head = n).foldl State.endAttempt (poseStored s n (paramPose r.payload))) := by
  have run := exec_taken (c := .writePose) (fun _ => rfl) takes rfl
  have stored : (withRequests rest s).storePose n (paramPose r.payload) = withRequests rest
      ((s.capture.waiting.filter fun a => a.head = n).foldl State.endAttempt (poseStored s n (paramPose r.payload))) := by
    rw [storePose_eq, ← endAttempts_withRequests]
    rfl
  have handed := samplesHanded_foldl samplesHanded_endAttempt (s.capture.waiting.filter fun a => a.head = n)
    (poseStored s n (paramPose r.payload))
  have gen : ((withRequests rest ((s.capture.waiting.filter fun a => a.head = n).foldl State.endAttempt
      (poseStored s n (paramPose r.payload)))).measure.get n).poseGen = ((s.measure.get n).poseGen + 1) % 65536 := by
    rw [show (withRequests rest _).measure = _ from (congrArg State.measure handed.rest :)]
    simp [poseStored]
  refine answers_of_given ((congrArg (·.mgmt.held) handed.rest :).trans takes.1.2.1) (run.trans (congrArg _ ?_))
  rw [paramHead, headOf_headNumber head]
  dsimp only
  rw [stored, gen]
  rfl

/-- Settles O41: the fields stored, and the attempts that a new pose drops. -/
theorem headSettingsStored : Obligations.HeadSettingsStored := by
  intro s r rest p byte refused
  refine ⟨headConfig_stores, writeComp_stores, fun takes => ⟨fun large => ?_, fun n head => ?_⟩⟩
  · refine answers_of_given takes.1.2.1 ((exec_taken (c := .writePose) (fun _ => rfl) takes rfl).trans (congrArg _ ?_))
    rw [paramHead, headOf_of_large large]
  intro gen posed f
  have answers := writePose_answers takes head
  have alone {l : List Attempt} (none_ : ∀ a ∈ l, a.head ≠ n) : (l.filter fun a => a.head = n) = [] ∧
      (l.filter fun a => a.head ≠ n) = l :=
    ⟨List.filter_eq_nil_iff.2 (by simpa using none_), List.filter_eq_self.2 (by simpa using none_)⟩
  have own : ∀ a ∈ s.capture.waiting.filter (fun a => a.head = n), a.head = n := by simp
  have nobody (b : s.behind.get n = []) := endAttempts_alone own (s := poseStored s n (paramPose p)) b
  refine ⟨fun noAttempt => ?_, ⟨answers, fun none_ => nobody none_ ▸ answers⟩, ?_⟩
  · obtain ⟨dropped, others⟩ := alone noAttempt
    rw [dropped, List.foldl_nil, poseStored, others] at answers
    exact answers
  · obtain ⟨share, others⟩ := ownShare_endAttempts own (poseStored s n (paramPose p))
    have handed := samplesHanded_foldl samplesHanded_endAttempt (s.capture.waiting.filter fun a => a.head = n)
      (poseStored s n (paramPose p))
    let w := (s.capture.waiting.filter fun a => a.head = n).foldl State.endAttempt (poseStored s n (paramPose p))
    have given := given_rest (withRequests rest w) f
    have capture : (Safety.given (withRequests rest w) f).capture = w.capture := (congrArg State.capture given :)
    have settle : (Safety.given (withRequests rest w) f).settle = w.settle := (congrArg State.settle given :)
    have behind : (Safety.given (withRequests rest w) f).behind = w.behind := (congrArg State.behind given :)
    refine ⟨Safety.given (withRequests rest w) f, answers, (congrArg State.measure given :).trans (congrArg State.measure handed.rest :), given_answered _ f,
      given_requests _ f, ?_, fun none_ => ?_, fun k other => ?_, ?_, ?_⟩
    · rw [capture]
      exact others.trans (by simp [othersAttempts, poseStored])
    · rw [capture, settle, behind, show w = _ from nobody none_]
      have reports {β : Type} (π : State → β) (h : ∀ b m x, π (State.reportSample b m x) = π b) :=
        foldl_keeps π (fun b (a : Attempt) => b.reportSample n a.handed) (fun b a => h b n a.handed)
          (s.capture.waiting.filter fun a => a.head = n) (poseStored s n (paramPose p))
      rw [reports State.capture (by simp), reports State.settle (by simp), reports State.behind (by simp)]
      exact ⟨rfl, PerHead.get_set_self _ _ _, none_⟩
    · obtain ⟨-, -, settle', behind', -⟩ := share.others k other
      rw [settle, behind, settle', behind']
      exact ⟨PerHead.get_set_ne _ _ other, rfl⟩
    · rw [capture]
      exact congrArg (fun c : Capture => { c with waiting := s.capture.waiting }) handed.capture
    · let keep (x : State) : State := { x with
        measure := s.measure, settle := s.settle, behind := s.behind, capture := s.capture, report := s.report
        uplink := s.uplink, mgmt := s.mgmt }
      exact (congrArg keep given :).trans (congrArg keep handed.rest :)

end Sys2Proof.Proofs
end

section
/-! PROOFS. TABLE_CONFIG and its application; what a fold over the walks makes of them, and samples finished as "lookup late". -/

namespace Sys2Proof.Proofs
open Sys2Proof Sys2Proof.Machine

/-! ### Walks changed one after the other -/

/-- The state with its walks and the WALK requester's queue replaced. -/
def withWalks (ws : List Walk) (q : List WalkRead) (s : State) : State :=
  { s with lookup := { s.lookup with walks := ws }, mem := { s.mem with walkQueue := q } }

/-- An operation that makes g w of the walks of w's charge and asks for the reads of w. -/
def EditsWalks (s : State) (op : State → Walk → State) (g : Walk → Walk → Option Walk) (reads : Walk → List WalkRead) : Prop :=
  (∀ ws q w, op (withWalks ws q s) w =
    withWalks (ws.filterMap fun v => if v.charge = w.charge then g w v else some v) (q ++ reads w) s) ∧
  ∀ w v, ∀ v' ∈ g w v, v'.charge = v.charge

section
variable {s : State} {op : State → Walk → State} {g : Walk → Walk → Option Walk} {reads : Walk → List WalkRead}

/-- Walks of distinct charges edited one after the other: each walk by the one of its charge. -/
theorem foldl_edits (edits : EditsWalks s op g reads) {l : List Walk} (distinct : (l.map Walk.charge).Nodup)
    (ws : List Walk) (q : List WalkRead) : l.foldl op (withWalks ws q s) = withWalks
      (ws.filterMap fun v => (l.find? fun w => w.charge = v.charge).elim (some v) fun w => g w v) (q ++ l.flatMap reads) s := by
  induction l generalizing ws q with
  | nil => simp
  | cons w l ih =>
    rw [List.map_cons, List.nodup_cons] at distinct
    obtain ⟨absent, distinct⟩ := distinct
    rw [List.foldl_cons, edits.1, ih distinct, List.filterMap_filterMap, List.flatMap_cons, List.append_assoc]
    congr 1
    refine List.filterMap_congr fun v _ => ?_
    by_cases own : v.charge = w.charge
    · have here : ((w :: l).find? fun w => w.charge = v.charge) = some w :=
        List.find?_cons_of_pos (decide_eq_true own.symm)
      have nowhere : (l.find? fun w => w.charge = v.charge) = none := by
        rw [List.find?_eq_none]
        intro w' mem same
        exact absent (own ▸ of_decide_eq_true same ▸ List.mem_map_of_mem mem)
      rw [if_pos own, here]
      cases edited : g w v with
      | none => simp [edited]
      | some v' =>
        have charge := edits.2 w v v' edited
        simp [edited, charge, nowhere]
    · have further : ((w :: l).find? fun w => w.charge = v.charge) = l.find? fun w => w.charge = v.charge :=
        List.find?_cons_of_neg (by simpa using fun same => own same.symm)
      rw [if_neg own, further]
      rfl

/-- The walks for which p holds edited one after the other, with distinct charges: each by itself. -/
theorem foldl_edits_filter (edits : EditsWalks s op g reads) (distinct : (s.lookup.walks.map Walk.charge).Nodup)
    (p : Walk → Bool) : (s.lookup.walks.filter p).foldl op s = withWalks
      (s.lookup.walks.filterMap fun w => if p w then g w w else some w)
      (s.mem.walkQueue ++ (s.lookup.walks.filter p).flatMap reads) s := by
  have chosen : ((s.lookup.walks.filter p).map Walk.charge).Nodup :=
    distinct.sublist (List.filter_sublist.map _)
  refine (foldl_edits edits chosen s.lookup.walks s.mem.walkQueue).trans ?_
  congr 1
  refine List.filterMap_congr fun w mem => ?_
  have unique {w'} (mem' : w' ∈ s.lookup.walks) (same : w'.charge = w.charge) : w' = w :=
    List.inj_on_of_nodup_map distinct mem' mem same
  by_cases is : p w = true
  · have found : ((s.lookup.walks.filter p).find? fun w' => w'.charge = w.charge) = some w := by
      cases e : (s.lookup.walks.filter p).find? fun w' => w'.charge = w.charge with
      | none => exact absurd (decide_eq_true rfl) (List.find?_eq_none.1 e w (List.mem_filter.2 ⟨mem, is⟩))
      | some w' =>
        rw [unique (List.mem_filter.1 (List.mem_of_find?_eq_some e)).1 (by simpa using List.find?_some e)]
    rw [found, if_pos is]
    rfl
  · have missed : ((s.lookup.walks.filter p).find? fun w' => w'.charge = w.charge) = none := by
      rw [List.find?_eq_none]
      intro w' mem' same
      obtain ⟨mem', is'⟩ := List.mem_filter.1 mem'
      exact is (unique mem' (of_decide_eq_true same) ▸ is')
    rw [missed, if_neg is]
    rfl

end

theorem map_at_charge (c : Charge) (f : Walk → Walk) (ws : List Walk) : (ws.map fun v => if v.charge = c then f v else v) =
    ws.filterMap fun v => if v.charge = c then some (f v) else some v := by
  rw [← List.filterMap_eq_map]
  refine List.filterMap_congr fun v _ => ?_
  dsimp only [Function.comp]
  split <;> rfl

theorem filter_charge (c : Charge) (ws : List Walk) : (ws.filter fun v => v.charge != c) =
    ws.filterMap fun v => if v.charge = c then none else some v := by
  rw [← List.filterMap_eq_filter]
  refine List.filterMap_congr fun v _ => ?_
  by_cases own : v.charge = c <;> simp [Option.guard, own]

/-- A walk without its pin and waiters, its result to be dropped (R73). -/
def discarded (w : Walk) : Walk := { w with pin := false, waiters := [], discarded := true }

/-- What becomes of a walk that is discarded: it ends, or stays for the read that is outstanding (R73). -/
def afterDiscard (w v : Walk) : Option Walk := if w.outstanding.isSome then some (discarded v) else none

theorem discardWalk_edits (s : State) : EditsWalks s State.discardWalk afterDiscard fun _ => [] := by
  refine ⟨fun ws q w => ?_, fun w v v' h => ?_⟩
  · unfold State.discardWalk State.dropWalk
    have ended := endWalk_mapWalk (withWalks ws q s).lookup w.charge (f := discarded) fun _ => rfl
    cases outstanding : w.outstanding with
    | none =>
      refine (congrArg (fun l => { withWalks ws q s with lookup := l }) ended).trans ?_
      simp only [afterDiscard, outstanding, Lookup.endWalk, filter_charge, List.append_nil]
      rfl
    | some b =>
      simp only [afterDiscard, outstanding, Lookup.mapWalk, Option.isSome_some, if_true, List.append_nil, map_at_charge]
      rfl
  · unfold afterDiscard at h
    split at h <;> cases h
    rfl

/-! ### Waiting samples finished late -/

theorem finishLate_eq (s : State) (n : Head) : s.finishLate n = Safety.finishedLate s n := by
  unfold Safety.finishedLate
  cases waiting : s.waiting.get n with
  | none => rw [State.finishLate, waiting]
  | some w => exact finishLate_of_waiting waiting

/-- The heads whose waiting samples p picks are finished in some order. -/
theorem finishAllLate_eq (s : State) (p : WaitingSample → Bool) : ∃ (order : List Head) (k : ℕ), order.Nodup ∧
    (∀ n, n ∈ order ↔ (s.waiting.get n).any p = true) ∧
    s.finishAllLate p = order.foldl Safety.finishedLate { s with freeCount := k } := by
  have perm := freelyOrdered_perm (allHeads.filter fun n => (s.waiting.get n).any p) s
  refine ⟨_, (freelyOrdered (allHeads.filter fun n => (s.waiting.get n).any p) s).2.freeCount,
    perm.nodup_iff.2 (List.Nodup.filter _ (by decide)), fun n => ?_, ?_⟩
  · rw [perm.mem_iff, List.mem_filter]
    exact and_iff_right (by cases n <;> decide)
  · have drawn : (freelyOrdered (allHeads.filter fun n => (s.waiting.get n).any p) s).2 = { s with
        freeCount := (freelyOrdered (allHeads.filter fun n => (s.waiting.get n).any p) s).2.freeCount } := by
      unfold freelyOrdered
      split <;> rfl
    rw [← drawn, ← funext fun b => funext fun n => finishLate_eq b n]
    rfl

/-- With none to finish nothing changes. -/
theorem finishAllLate_none {s : State} {p : WaitingSample → Bool} (h : ∀ n, (s.waiting.get n).any p = false) :
    s.finishAllLate p = s := by
  have nobody : (allHeads.filter fun n => (s.waiting.get n).any p) = [] :=
    List.filter_eq_nil_iff.2 fun n _ => by rw [h n]; decide
  rw [State.finishAllLate, nobody]
  rfl

/-- A sample without a record is not eligible: it makes no attempt wait. -/
theorem toCapture_capture_of_no_record (s : State) (n : Head) (m : MeasuredSample) {r : LookupResult} (h : r.recordOf = none) :
    (s.toCapture n ⟨m, r⟩).capture = s.capture := by
  have bars : s.eligible ⟨m, r⟩ = none := not_eligible (.inr (.inr (.inr (.inr fun c hit => by
    rw [show r = .record c from hit] at h
    cases h))))
  unfold State.toCapture State.settleWork
  rw [bars]
  split
  · rfl
  · exact reportSample_capture _ n _

/-- From s to t the waiting samples of the heads listed have been finished late. -/
structure LateFinished (order : List Head) (s t : State) : Prop where
  waiting : ∀ n ∈ order, t.waiting.get n = none
  others : ∀ k ∉ order, t.waiting.get k = s.waiting.get k ∧ t.settle.get k = s.settle.get k ∧ t.behind.get k = s.behind.get k
  rest : { t with
    waiting := s.waiting, settle := s.settle, behind := s.behind, report := s.report, uplink := s.uplink } = s

theorem lateFinished_one (s : State) (n : Head) : LateFinished [n] s (Safety.finishedLate s n) := by
  unfold Safety.finishedLate
  cases waiting : s.waiting.get n with
  | none => exact ⟨fun k mem => List.mem_singleton.1 mem ▸ waiting, fun _ _ => ⟨rfl, rfl, rfl⟩, rfl⟩
  | some w =>
    let b : State := { s with waiting := s.waiting.set n none }
    have share := ownShare_toCapture n b ⟨w.sample, .late⟩
    have handed := samplesHanded_toCapture b n ⟨w.sample, .late⟩
    have waiting' : (b.toCapture n ⟨w.sample, .late⟩).waiting = b.waiting := (congrArg State.waiting handed.rest :)
    refine ⟨fun k mem => ?_, fun k out => ?_, ?_⟩
    · rw [List.mem_singleton.1 mem]
      exact (congrArg (PerHead.get · n) waiting').trans (PerHead.get_set_self _ _ _)
    · have other : k ≠ n := fun is => out (List.mem_singleton.2 is)
      obtain ⟨-, -, settle, behind, -⟩ := share.others k other
      exact ⟨(congrArg (PerHead.get · k) waiting').trans (PerHead.get_set_ne _ _ other), settle, behind⟩
    · have capture : (b.toCapture n ⟨w.sample, .late⟩).capture = s.capture := toCapture_capture_of_no_record b n w.sample rfl
      have kept := congrArg (fun c : Capture => { b.toCapture n ⟨w.sample, .late⟩ with
        waiting := s.waiting, settle := s.settle, behind := s.behind, report := s.report, uplink := s.uplink
        capture := c }) capture
      exact kept.trans (congrArg (fun x : State => { x with waiting := s.waiting }) handed.rest :)

theorem lateFinished_foldl (order : List Head) (s : State) : LateFinished order s (order.foldl Safety.finishedLate s) := by
  induction order generalizing s with
  | nil => exact ⟨nofun, fun _ _ => ⟨rfl, rfl, rfl⟩, rfl⟩
  | cons n l ih =>
    have first := lateFinished_one s n
    have further := ih (Safety.finishedLate s n)
    refine ⟨fun k mem => ?_, fun k out => ?_, ?_⟩
    · by_cases later : k ∈ l
      · exact further.waiting k later
      · have here : k = n := (List.mem_cons.1 mem).resolve_right later
        exact (further.others k later).1.trans (first.waiting k (List.mem_singleton.2 here))
    · obtain ⟨notHere, notLater⟩ := not_or.1 fun or => out (List.mem_cons.2 or)
      obtain ⟨w, q, b⟩ := first.others k fun is => notHere (List.mem_singleton.1 is)
      obtain ⟨w', q', b'⟩ := further.others k notLater
      exact ⟨w'.trans w, q'.trans q, b'.trans b⟩
    · have rest := congrArg (fun x : State => { x with
        waiting := s.waiting, settle := s.settle, behind := s.behind, report := s.report, uplink := s.uplink }) further.rest
      exact rest.trans first.rest

/-! ### TABLE_CONFIG -/

/-- The first status of R57 that applies, and none where the table may be configured. -/
theorem tableTests_eq (s : State) (base count shift : ℕ) : s.tableTests base count shift =
    if s.service ≠ .start ∧ s.service ≠ .hold then some .wrongState
    else if shift < 16 ∨ 22 < shift then some .badValue
    else if count ∉ [256, 512, 1024, 2048, 4096, 8192, 16384, 32768, 65536] then some .badValue
    else if base % (count * 64) ≠ 0 then some .align
    else if 67108864 ≤ base then some .address
    else if s.spill.configured = true ∧ s.spill.base < base + count * 64 ∧ base < s.spill.base + 32768 then some .address
    else none := by
  have barred : (!s.configurable) = true ↔ s.service ≠ .start ∧ s.service ≠ .hold := by simp [State.configurable]
  have shifts : (decide (shift < 16) || decide (shift > 22)) = true ↔ shift < 16 ∨ 22 < shift := by simp
  have counts : (!legalBucketCount count) = true ↔
      count ∉ [256, 512, 1024, 2048, 4096, 8192, 16384, 32768, 65536] := by
    rw [legalBucketCount, Bool.not_eq_true', ← Bool.not_eq_true, List.contains_iff_mem]
  have meets : (s.spill.configured && overlap s.spill.base Config.ringBytes base (tableBytes count)) = true ↔
      s.spill.configured = true ∧ s.spill.base < base + count * 64 ∧ base < s.spill.base + 32768 := by
    rw [Bool.and_eq_true, overlap_iff]
    rfl
  simp only [State.tableTests, barred, shifts, counts, meets]
  rfl

theorem tableConfig_cases {s : State} {r : Request} {rest : List Request} (takes : Safety.Takes s 11 r rest) :
    let base := natAt 1 4 r.payload
    let count := natAt 5 4 r.payload
    let shift := natAt 9 1 r.payload
    (∀ st, s.tableTests base count shift = some st → st ≠ .ok →
      Safety.Answers .tableConfig s rest (Safety.answer r.tag 11 st []) s) ∧
    (s.tableTests base count shift = none →
      exec .tableConfig s = .next (Safety.kept s r.tag rest (.tableConfig base count shift))) := by
  intro base count shift
  have run := exec_taken (c := .tableConfig) (fun _ => rfl) takes rfl
  have same : (withRequests rest s).tableTests base count shift = s.tableTests base count shift := rfl
  refine ⟨fun st fails notOk => ?_, fun pass => ?_⟩
  · refine answers_of_given takes.1.2.1 (run.trans (congrArg _ ?_))
    simp only [show (withRequests rest s).tableTests (natAt 1 4 r.payload) (natAt 5 4 r.payload) (natAt 9 1 r.payload) = some st
      from same.trans fails]
  · refine run.trans (congrArg _ ?_)
    simp only [show (withRequests rest s).tableTests (natAt 1 4 r.payload) (natAt 5 4 r.payload) (natAt 9 1 r.payload) = none
      from same.trans pass]
    rfl

/-- The request in hand answered, with no answer held. -/
theorem answerInHand_given {s : State} {tag : Byte} {w : Work} (inHand : s.mgmt.inHand = some ⟨tag, w⟩)
    (held : s.mgmt.held = none) (data : List Byte) :
    s.answerInHand .ok data = Safety.given s (Safety.answer tag w.kind .ok data) := by
  rw [State.answerInHand, inHand]
  refine (State.giveAnswer_eq _ _ _ _ _ held).trans ?_
  rw [answerFrame_eq, if_pos rfl]

/-- The lookup unit's state once a table configuration has been applied (R58). -/
def tableApplied (l : Lookup) (base count shift : ℕ) : Lookup := { l with
  configured := true, base := base, bucketCount := count, shift := shift
  records := List.replicate 32 none, victim := 0, rewalk := []
  walks := (l.walks.filter fun w => w.outstanding.isSome).map discarded }

theorem applyTable_eq {s : State} (distinct : (s.lookup.walks.map Walk.charge).Nodup) (base count shift : ℕ) :
    s.applyTable base count shift =
      { s with lookup := tableApplied s.lookup base count shift }.finishAllLate fun _ => true := by
  let configured : State := { s with lookup := { s.lookup with
    configured := true, base := base, bucketCount := count, shift := shift
    records := List.replicate 32 none, rewalk := [], victim := 0 } }
  have folded := foldl_edits_filter (discardWalk_edits configured) distinct fun _ => true
  have all : configured.lookup.walks.filter (fun _ => true) = configured.lookup.walks := List.filter_true _
  have walks : (configured.lookup.walks.filterMap fun w => if true then afterDiscard w w else some w) =
      (s.lookup.walks.filter fun w => w.outstanding.isSome).map discarded := by
    rw [← List.filterMap_eq_map, List.filterMap_filter]
    rfl
  rw [all, walks, List.flatMap_eq_nil_iff.2 fun _ _ => rfl, List.append_nil] at folded
  exact congrArg (fun t : State => t.finishAllLate fun _ => true) folded

theorem tableConfigApply_eq {s : State} {tag : Byte} {base count shift : ℕ}
    (inHand : s.mgmt.inHand = some ⟨tag, .tableConfig base count shift⟩) (held : s.mgmt.held = none) :
    (s.capture.writeback ≠ [] → exec .tableConfigApply s = .next s) ∧
    (s.capture.writeback = [] → exec .tableConfigApply s =
      .next (Safety.given (s.applyTable base count shift) (Safety.answer tag 11 .ok []))) := by
  have run : exec .tableConfigApply s = .next
      (if s.capture.writeback.isEmpty then (s.applyTable base count shift).answerInHand .ok [] else s) := by
    show execTableConfigApply s = _
    rw [execTableConfigApply, inHand]
    rfl
  refine ⟨fun some_ => ?_, fun none_ => ?_⟩
  · rw [run, if_neg (by simpa using some_)]
  · have mgmt : (s.applyTable base count shift).mgmt = s.mgmt := by
      rw [State.applyTable]
      simp only [State.finishAllLate_frame]
      exact foldl_keeps State.mgmt _ (fun b w => by simp) _ _
    rw [run, if_pos (by rw [none_]; rfl), answerInHand_given (by rw [mgmt, inHand]) (by rw [mgmt, held])]
    rfl

/-- Settles O42: the tests of TABLE_CONFIG, and its application with the samples that waited. -/
theorem tableConfigured : Obligations.TableConfigured := by
  refine ⟨fun s r rest takes => ?_, fun s tag base count shift inHand held => ?_⟩
  · intro base count shift refused
    obtain ⟨fails, passes⟩ := tableConfig_cases takes
    have tests := tableTests_eq s base count shift
    split_ifs at tests ⊢
    case neg => exact passes tests
    all_goals exact fails _ tests (by decide)
  · obtain ⟨blocked, applies⟩ := tableConfigApply_eq inHand held
    refine ⟨blocked, fun free distinct => ?_⟩
    intro applied f
    let configured : State := { s with lookup := applied }
    have run : exec .tableConfigApply s = .next (Safety.given (configured.finishAllLate fun _ => true) f) := by
      rw [applies free, applyTable_eq distinct]
      rfl
    obtain ⟨order, k, nodup, waits, late⟩ := finishAllLate_eq configured fun _ => true
    have waiting_iff (n : Head) : n ∈ order ↔ s.waiting.get n ≠ none := by
      rw [waits, ← Option.isSome_iff_ne_none]
      cases s.waiting.get n <;> simp
    refine ⟨fun none_ => ?_, ⟨order, k, nodup, waiting_iff, ?_⟩, ?_⟩
    · rw [run, finishAllLate_none fun n => by rw [show configured.waiting.get n = none from none_ n]; rfl]
    · rw [run, late]
    · have finished := lateFinished_foldl order { configured with freeCount := k }
      rw [← late] at finished
      have given := given_rest (configured.finishAllLate fun _ => true) f
      have lookup := (congrArg State.lookup given :).trans (congrArg State.lookup finished.rest :)
      have waiting := congrArg State.waiting given
      have settle := congrArg State.settle given
      have behind := congrArg State.behind given
      refine ⟨_, run, lookup, waiting.trans (PerHead.ext_get fun n => ?_), given_answered _ f, fun n none_ => ?_, ?_⟩
      · rw [PerHead.get_all]
        by_cases mem : n ∈ order
        · exact finished.waiting n mem
        · exact (finished.others n mem).1.trans (not_not.1 (mt (waiting_iff n).2 mem))
      · obtain ⟨-, q, b⟩ := finished.others n fun mem => (waiting_iff n).1 mem none_
        exact ⟨(congrArg (PerHead.get · n) settle).trans q, (congrArg (PerHead.get · n) behind).trans b⟩
      · let keep (x : State) : State := { x with
          lookup := s.lookup, waiting := s.waiting, settle := s.settle, behind := s.behind, report := s.report
          uplink := s.uplink, mgmt := s.mgmt, freeCount := s.freeCount }
        exact (congrArg keep given :).trans (congrArg keep finished.rest :)

end Sys2Proof.Proofs
end

section
/-! PROOFS. MEM_READ and MEM_WRITE: their tests, what waits, and what their accesses leave in table memory and the cache. -/

namespace Sys2Proof.Proofs
open Sys2Proof Sys2Proof.Machine

/-! ### The requests -/

theorem accessTests_eq (s : State) (a n : ℕ) : s.accessTests a n =
    if s.service = .standby then some .wrongState
    else if s.mem.state ≠ .ready then some .notReady
    else if 67108864 < a + n then some .address
    else none := by
  have outside : (!inMemory a n) = true ↔ 67108864 < a + n := by simp [inMemory, Config.memorySize]
  simp only [State.accessTests, outside]

theorem writeTests_eq (s : State) (a n : ℕ) : s.writeTests a n =
    if s.service = .standby then some .wrongState
    else if s.mem.state ≠ .ready then some .notReady
    else if 67108864 < a + n then some .address
    else if s.spill.configured = true ∧ a < s.spill.base + 32768 ∧ s.spill.base < a + n then some .address
    else none := by
  have ring : (s.spill.configured && overlap a n s.spill.base Config.ringBytes) = true ↔
      s.spill.configured = true ∧ a < s.spill.base + 32768 ∧ s.spill.base < a + n := by
    rw [Bool.and_eq_true, overlap_iff]
  simp only [State.writeTests, accessTests_eq, ring]
  split_ifs <;> rfl

/-- A byte range overlaps the slot of an entry in the write-back queue (R102). -/
def overWriteback (s : State) (a n : ℕ) : Prop := ∃ e ∈ s.capture.writeback,
  a < s.lookup.base + e.bucket * 64 + slotOffset e.slot + 30 ∧ s.lookup.base + e.bucket * 64 + slotOffset e.slot < a + n

theorem writebackOver_iff (s : State) (a n : ℕ) : s.writebackOver a n = true ↔ overWriteback s a n := by
  simp only [State.writebackOver, List.any_eq_true, overlap_iff]
  rfl

/-- Settles O43: the tests, the write that waits, and its resume. -/
theorem memoryAccessRequested : Obligations.MemoryAccessRequested := by
  intro s overlapped asked
  refine ⟨fun r rest takes => ?_, fun r rest takes => ?_, fun tag a d inHand => ?_, fun h inHand other => ?_⟩
  · intro a n refused
    have run := exec_taken (c := .memRead) (fun _ => rfl) takes rfl
    have tests := accessTests_eq s a n
    have refuses {st : Status} (fails : s.accessTests a n = some st) (notOk : st ≠ .ok) : refused st := by
      refine answers_of_given takes.1.2.1 (run.trans (congrArg _ ?_))
      simp only [show (withRequests rest s).accessTests (natAt 1 4 r.payload) (natAt 5 1 r.payload) = some st from fails]
    split_ifs at tests ⊢
    case neg =>
      refine run.trans (congrArg _ ?_)
      simp only [show (withRequests rest s).accessTests (natAt 1 4 r.payload) (natAt 5 1 r.payload) = none from tests]
      rfl
    all_goals exact refuses tests (by decide)
  · intro a d refused
    have run := exec_taken (c := .memWrite) (fun _ => rfl) takes rfl
    have tests := writeTests_eq s a d.length
    have refuses {st : Status} (fails : s.writeTests a d.length = some st) (notOk : st ≠ .ok) : refused st := by
      refine answers_of_given takes.1.2.1 (run.trans (congrArg _ ?_))
      simp only [show (withRequests rest s).writeTests (natAt 1 4 r.payload) (r.payload.drop 5).length = some st from fails]
    have overlaps := writebackOver_iff s a d.length
    split_ifs at tests ⊢
    case neg =>
      simp only [show (withRequests rest s).writeTests (natAt 1 4 r.payload) (r.payload.drop 5).length = none from tests] at run
      exact ⟨fun blocked => run.trans (congrArg _ (if_pos (overlaps.2 blocked))),
        fun free => run.trans (congrArg _ (if_neg (mt overlaps.1 free)))⟩
    all_goals exact refuses tests (by decide)
  · have run : exec .memWriteResume s = .next (if s.writebackOver a d.length then s
        else (s.keepInHand tag (.memWrite a d)).requestMgmt (.write a d)) := by
      show execMemWriteResume s = _
      rw [execMemWriteResume, inHand]
    have overlaps := writebackOver_iff s a d.length
    exact ⟨fun blocked => run.trans (congrArg _ (if_pos (overlaps.2 blocked))),
      fun free => run.trans (congrArg _ (if_neg (mt overlaps.1 free)))⟩
  · obtain ⟨tag, work⟩ := h
    show execMemWriteResume s = _
    rw [execMemWriteResume, inHand]
    cases work with
    | memWriteBlocked a d => exact absurd rfl (other a d)
    | _ => rfl

/-! ### Walks restarted -/

/-- A restarted walk with the read of a bucket outstanding (R67, R74). -/
def readingAgain (b : ℕ) (v : Walk) : Walk := { v.restarted with outstanding := some b, dropData := false }

/-- What becomes of a walk that is restarted (R74). -/
def afterRestart (l : Lookup) (w v : Walk) : Option Walk :=
  some (if w.outstanding.isSome then v.restarted else readingAgain (cellHash l.bucketCount w.key) v)

theorem afterRestart_self (l : Lookup) (w : Walk) : afterRestart l w w = some (Safety.restarted l w) := by
  unfold afterRestart
  cases outstanding : w.outstanding <;> simp [Safety.restarted, Walk.restarted, readingAgain, outstanding]

/-- The reads a restarted walk asks for (R74). -/
def readsOfRestart (l : Lookup) (w : Walk) : List WalkRead := Safety.restartReads l [w]

theorem readsOfRestart_flatMap (l : Lookup) (ws : List Walk) : ws.flatMap (readsOfRestart l) = Safety.restartReads l ws := by
  unfold readsOfRestart Safety.restartReads
  induction ws with
  | nil => rfl
  | cons w ws ih =>
    rw [List.flatMap_cons, ih]
    cases outstanding : w.outstanding <;> simp [outstanding]

theorem map_at_charge_twice (c : Charge) {f g : Walk → Walk} (h : ∀ v, (f v).charge = v.charge) (ws : List Walk) :
    ((ws.map fun v => if v.charge = c then f v else v).map fun v => if v.charge = c then g v else v) =
      ws.map fun v => if v.charge = c then g (f v) else v := by
  rw [List.map_map]
  refine List.map_congr_left fun v _ => ?_
  by_cases own : v.charge = c <;> simp [own, h]

theorem restartWalk_edits (s : State) :
    EditsWalks s State.restartWalk (afterRestart s.lookup) (readsOfRestart s.lookup) := by
  refine ⟨fun ws q w => ?_, fun w v v' h => ?_⟩
  · unfold State.restartWalk afterRestart readsOfRestart Safety.restartReads
    rw [← map_at_charge]
    cases outstanding : w.outstanding with
    | none =>
      have twice := map_at_charge_twice w.charge (f := Walk.restarted) (g := fun v => { v with
        outstanding := some (cellHash s.lookup.bucketCount w.key), dropData := false }) (fun _ => rfl) ws
      have asks : [w].filter (fun w => w.outstanding.isNone) = [w] := by simp [outstanding]
      rw [asks]
      exact congrArg (withWalks · (q ++ _) s) twice
    | some b =>
      have none_ : [w].filter (fun w => w.outstanding.isNone) = [] := by simp [outstanding]
      rw [none_, List.map_nil, List.append_nil]
      rfl
  · cases h
    split <;> rfl

/-- Walks restarted that touch what p picks, with distinct charges. -/
theorem restartTouching_eq {s : State} (distinct : (s.lookup.walks.map Walk.charge).Nodup) (p : ℕ → Bool) :
    s.restartTouching p = withWalks
      (s.lookup.walks.map fun w => if !w.discarded && w.touches p then Safety.restarted s.lookup w else w)
      (s.mem.walkQueue ++ Safety.restartReads s.lookup (s.lookup.walks.filter fun w => !w.discarded && w.touches p)) s := by
  rw [State.restartTouching, foldl_edits_filter (restartWalk_edits s) distinct, readsOfRestart_flatMap,
    ← List.filterMap_eq_map]
  congr 1
  refine List.filterMap_congr fun w _ => ?_
  rw [afterRestart_self]
  dsimp only [Function.comp]
  split <;> rfl

/-! ### The accesses -/

theorem withinMemory_next {a n : ℕ} (h : a + n ≤ 67108864) (s : State) : withinMemory a n s = .next s :=
  if_pos (decide_eq_true h)

/-- An order left open may draw a choice, and changes nothing else. -/
theorem freelyOrdered_snd {α : Type} (l : List α) (s : State) :
    (freelyOrdered l s).2 = { s with freeCount := (freelyOrdered l s).2.freeCount } := by
  unfold freelyOrdered
  split <;> rfl

theorem applyWrite_eq {s : State} (distinct : (s.lookup.walks.map Walk.charge).Nodup) (a n : ℕ) :
    let hit (b : Nat) : Bool := a < s.lookup.base + b * 64 + 64 && s.lookup.base + b * 64 < a + n
    let stale (w : Walk) : Bool := !w.discarded && (w.visited.any hit || w.outstanding.any hit)
    ∃ keys k, keys.Perm (s.lookup.records.filterMap fun r =>
        r.bind fun r => if r.pinned && r.visited.any hit then some r.key else none) ∧
      s.applyWrite a n = { s with
        freeCount := k
        lookup := { s.lookup with
          records := s.lookup.records.map fun r => r.filter fun r => !r.visited.any hit
          rewalk := s.lookup.rewalk ++ keys
          walks := s.lookup.walks.map fun w => if stale w then Safety.restarted s.lookup w else w }
        mem := { s.mem with
          walkQueue := s.mem.walkQueue ++ Safety.restartReads s.lookup (s.lookup.walks.filter stale) } } := by
  intro hit stale
  have isHit : bucketOverlaps s.lookup.base a n = hit := rfl
  have listed : s.lookup.pinnedTouching hit = s.lookup.records.filterMap fun r =>
      r.bind fun r => if r.pinned && r.visited.any hit then some r.key else none := by
    refine List.filterMap_congr fun r _ => ?_
    cases r with
    | none => rfl
    | some r =>
      rw [Option.filter_some, Option.bind_some]
      exact apply_ite (Option.map CellRecord.key) _ _ _
  have perm := freelyOrdered_perm (s.lookup.pinnedTouching hit) s
  refine ⟨(freelyOrdered (s.lookup.pinnedTouching hit) s).1, (freelyOrdered (s.lookup.pinnedTouching hit) s).2.freeCount,
    listed ▸ perm, ?_⟩
  simp only [State.applyWrite, isHit]
  rw [freelyOrdered_snd]
  exact restartTouching_eq (s := { s with
    freeCount := (freelyOrdered (s.lookup.pinnedTouching hit) s).2.freeCount
    lookup := { s.lookup with
      records := s.lookup.records.map (Option.filter fun r => !r.touches hit)
      rewalk := s.lookup.rewalk ++ (freelyOrdered (s.lookup.pinnedTouching hit) s).1 } }) distinct hit

/-- Settles O44: the bytes read, and what a write leaves. -/
theorem memoryAccessesComplete : Obligations.MemoryAccessesComplete := by
  refine ⟨fun s tag a n g d running mgmt inside => ?_, fun s tag a g d bs running mgmt inside canonical distinct => ?_⟩
  · have run : exec .memReadDone s = withinMemory a n (s.endAccess.answerInHand .ok (s.readBytes a n)) := by
      show execMemReadDone s = _
      simp only [execMemReadDone, State.access, running, mgmt, Option.map_some]
    rw [run, withinMemory_next inside]
    exact congrArg _ (answerInHand_given (s := s.endAccess) (congrArg Management.inHand mgmt) (congrArg Management.held mgmt) _)
  · intro l hit stale
    have run : exec .memWriteDone s =
        withinMemory a bs.length (((s.endAccess.writeBytes a bs).applyWrite a bs.length).answerInHand .ok []) := by
      show execMemWriteDone s = _
      simp only [execMemWriteDone, State.access, running, mgmt, Option.map_some]
    obtain ⟨keys, k, perm, applied⟩ := applyWrite_eq (s := s.endAccess.writeBytes a bs) distinct a bs.length
    refine ⟨(s.writeBytes a bs).cells, keys, k, fun x => s.readByte_writeBytes a x bs, perm, ?_⟩
    have kept : ((s.endAccess.writeBytes a bs).applyWrite a bs.length).mgmt = s.mgmt := by rw [applied]; rfl
    rw [run, withinMemory_next inside, answerInHand_given (by rw [kept, mgmt]) (by rw [kept, mgmt]), applied]
    rfl

end Sys2Proof.Proofs
end

section
/-! PROOFS. Purges, pins and their releases: where a key stands, and what each request makes of records and walks. -/

namespace Sys2Proof.Proofs
open Sys2Proof Sys2Proof.Machine

/-! ### Where a key stands -/

section
variable {l : Lookup} {i j : ℕ} {r r' : CellRecord} {k : CellKey} {w w' : Walk}

/-- Two records with one key are one record. -/
theorem Consistent.index_unique (c : Consistent l) (hi : l.records[i]? = some (some r)) (hj : l.records[j]? = some (some r'))
    (key : r.key = r'.key) : i = j := by
  have keys : (Safety.validKeys l).Nodup := (List.nodup_append.1 (List.nodup_append.1 c.keys).1).1
  rw [Safety.validKeys, List.Nodup, List.pairwise_filterMap] at keys
  obtain ⟨li, atI⟩ := List.getElem?_eq_some_iff.1 hi
  obtain ⟨lj, atJ⟩ := List.getElem?_eq_some_iff.1 hj
  have apart {a b : ℕ} (la : a < l.records.length) (lb : b < l.records.length) {x y : CellRecord}
      (hx : l.records[a] = some x) (hy : l.records[b] = some y) (same : x.key = y.key) (less : a < b) : False :=
    List.pairwise_iff_getElem.1 keys a b la lb less x.key (by rw [hx]; rfl) y.key (by rw [hy]; rfl) same
  rcases Nat.lt_trichotomy i j with less | same | less
  · exact (apart li lj atI atJ key less).elim
  · exact same
  · exact (apart lj li atJ atI key.symm less).elim

/-- The record with a key is the one found. -/
theorem Consistent.find_cached (c : Consistent l) (hi : l.records[i]? = some (some r)) (key : r.key = k) :
    l.find k = some r ∧ recordIndex k l.records = some i := by
  have found : l.find k = some r := find_of_unique (List.mem_of_getElem? hi) key fun r' mem key' => by
    obtain ⟨j, hj⟩ := List.mem_iff_getElem?.1 mem
    have same := c.index_unique hj hi (key'.trans key.symm)
    rw [same, hi] at hj
    exact (Option.some.inj (Option.some.inj hj)).symm
  obtain ⟨j, index, at_, key'⟩ := find_some found
  rw [c.index_unique hi at_ (key.trans key'.symm)]
  exact ⟨found, index⟩

theorem Consistent.live_unique (c : Consistent l) (mem : w ∈ l.walks) (live : w.discarded = false) (mem' : w' ∈ l.walks)
    (live' : w'.discarded = false) (key : w.key = w'.key) : w = w' := by
  have keys : (Safety.liveKeys l).Nodup := (List.nodup_append.1 (List.nodup_append.1 c.keys).1).2.1
  exact List.inj_on_of_nodup_map keys (List.mem_filter.2 ⟨mem, by rw [live]; rfl⟩)
    (List.mem_filter.2 ⟨mem', by rw [live']; rfl⟩) key

/-- The walk in flight for a key is the one found. -/
theorem Consistent.walkFor_live (c : Consistent l) (mem : w ∈ l.walks) (live : w.discarded = false) (key : w.key = k) :
    l.walkFor k = some w := by
  cases found : l.walkFor k with
  | none => exact absurd (mem_liveKeys.2 ⟨w, mem, live, key⟩) ((walkFor_eq_none_iff l k).1 found)
  | some w' =>
    obtain ⟨mem', key', live'⟩ := walkFor_some found
    rw [c.live_unique mem live mem' live' (key.trans key'.symm)]

/-- A cached key has no walk in flight and is not listed; one with a walk is not listed. -/
theorem Consistent.one_place (c : Consistent l) :
    (k ∈ Safety.validKeys l → k ∉ Safety.liveKeys l ∧ k ∉ l.rewalk) ∧ (k ∈ Safety.liveKeys l → k ∉ l.rewalk) := by
  obtain ⟨two, -, apart⟩ := List.nodup_append.1 c.keys
  obtain ⟨-, -, apart'⟩ := List.nodup_append.1 two
  refine ⟨fun cached => ⟨fun live => apart' k cached k live rfl, fun listed => ?_⟩, fun live listed => ?_⟩
  · exact apart k (List.mem_append_left _ cached) k listed rfl
  · exact apart k (List.mem_append_right _ live) k listed rfl

end

/-- Entries of which at most one has a property. -/
theorem filter_eq_find_toList {α : Type} {p : α → Bool} {l : List α} (h : l.Pairwise fun a b => ¬(p a ∧ p b)) :
    l.filter p = (l.find? p).toList := by
  induction l with
  | nil => rfl
  | cons a l ih =>
    obtain ⟨apart, rest⟩ := List.pairwise_cons.1 h
    by_cases is : p a = true
    · have none_ : l.filter p = [] := List.filter_eq_nil_iff.2 fun b mem isToo => apart b mem ⟨is, isToo⟩
      rw [List.filter_cons_of_pos is, none_, List.find?_cons_of_pos is]
      rfl
    · rw [List.filter_cons_of_neg is, List.find?_cons_of_neg is, ih rest]

theorem Consistent.filter_live {l : Lookup} (c : Consistent l) (k : CellKey) :
    (l.walks.filter fun w => w.key = k && !w.discarded) = (l.walkFor k).toList := by
  refine filter_eq_find_toList ?_
  have keys : (Safety.liveKeys l).Nodup := (List.nodup_append.1 (List.nodup_append.1 c.keys).1).2.1
  rw [Safety.liveKeys, List.Nodup, List.pairwise_map, List.pairwise_filter] at keys
  refine keys.imp fun {a b} apart both => ?_
  simp only [Bool.and_eq_true, decide_eq_true_eq] at both
  obtain ⟨⟨keyA, liveA⟩, keyB, liveB⟩ := both
  exact apart liveA liveB (keyA.trans keyB.symm)

/-! ### Walks purged and unpinned -/

/-- What becomes of a walk that a purge reaches (R79, R80). -/
def afterPurge (l : Lookup) (w v : Walk) : Option Walk :=
  if w.discarded then some v
  else if w.waiters.isEmpty then afterDiscard w v
  else afterRestart l w { v with pin := false }

theorem afterPurge_self (l : Lookup) (w : Walk) : afterPurge l w w = Safety.purged l w := by
  unfold afterPurge Safety.purged afterDiscard discarded
  simp only [List.isEmpty_iff]
  split_ifs with old alone reading
  · rfl
  · rw [alone]
  · rfl
  · unfold afterRestart
    cases outstanding : w.outstanding <;> simp [Safety.restarted, Walk.restarted, readingAgain, outstanding]

/-- The reads that a purge asks for (R74, R79). -/
def readsOfPurge (l : Lookup) (w : Walk) : List WalkRead :=
  if !w.discarded && !w.waiters.isEmpty then readsOfRestart l w else []

theorem afterRestart_charge {l : Lookup} {w v v' : Walk} (h : v' ∈ afterRestart l w v) : v'.charge = v.charge := by
  cases h
  split <;> rfl

theorem afterDiscard_charge {w v v' : Walk} (h : v' ∈ afterDiscard w v) : v'.charge = v.charge := by
  unfold afterDiscard at h
  split at h <;> cases h
  rfl

theorem purgeWalk_edits (s : State) : EditsWalks s State.purgeWalk (afterPurge s.lookup) (readsOfPurge s.lookup) := by
  refine ⟨fun ws q w => ?_, fun w v v' h => ?_⟩
  · unfold State.purgeWalk afterPurge readsOfPurge
    cases old : w.discarded with
    | true => simp
    | false =>
      cases alone : w.waiters.isEmpty with
      | true => simpa using (discardWalk_edits s).1 ws q w
      | false =>
        have unpinned := (restartWalk_edits s).1 (ws.map fun v => if v.charge = w.charge then { v with pin := false } else v) q w
        have joined : ((ws.map fun v => if v.charge = w.charge then { v with pin := false } else v).filterMap fun v =>
              if v.charge = w.charge then afterRestart s.lookup w v else some v) =
            ws.filterMap fun v => if v.charge = w.charge then afterRestart s.lookup w { v with pin := false } else some v := by
          rw [List.filterMap_map]
          refine List.filterMap_congr fun v _ => ?_
          by_cases own : v.charge = w.charge <;> simp [own]
        rw [joined] at unpinned
        exact unpinned
  · unfold afterPurge at h
    split_ifs at h
    · cases h
      rfl
    · exact afterDiscard_charge h
    · exact (afterRestart_charge h :)

/-- What becomes of a walk that loses its pin (R73, R77). -/
def afterUnpin (w v : Walk) : Option Walk :=
  if w.waiters.isEmpty && w.outstanding.isNone then none else some { v with pin := false }

theorem unpinWalk_edits (s : State) : EditsWalks s State.unpinWalk afterUnpin fun _ => [] := by
  refine ⟨fun ws q w => ?_, fun w v v' h => ?_⟩
  · unfold State.unpinWalk State.dropWalk
    have ended := endWalk_mapWalk (withWalks ws q s).lookup w.charge (f := fun v => { v with pin := false }) fun _ => rfl
    cases alone : w.waiters.isEmpty <;> cases outstanding : w.outstanding
    case true.none =>
      refine (congrArg (fun l => { withWalks ws q s with lookup := l }) ended).trans ?_
      simp only [afterUnpin, alone, outstanding, Lookup.endWalk, filter_charge, List.append_nil]
      rfl
    all_goals
      simp only [afterUnpin, alone, outstanding, Lookup.mapWalk, List.append_nil, ← map_at_charge, Bool.and_false,
        Bool.false_and, Option.isNone_some, Bool.false_eq_true, if_false]
      rfl
  · unfold afterUnpin at h
    split at h <;> cases h
    rfl

/-! ### Purges and UNPIN_CELL -/

theorem readsOfPurge_flatMap (l : Lookup) (ws : List Walk) : ws.flatMap (readsOfPurge l) =
    Safety.restartReads l (ws.filter fun w => !w.discarded && !w.waiters.isEmpty) := by
  rw [← readsOfRestart_flatMap]
  induction ws with
  | nil => rfl
  | cons w ws ih =>
    rw [List.flatMap_cons, ih, readsOfPurge, List.filter_cons]
    split <;> rfl

theorem mapKey_none (l : Lookup) (k : CellKey) : l.mapKey k (fun _ => none) =
    { l with records := l.records.map fun c => c.filter fun c => c.key ≠ k } := by
  refine congrArg (fun rs => { l with records := rs }) (List.map_congr_left fun c _ => ?_)
  cases c with
  | none => rfl
  | some c => by_cases key : c.key = k <;> simp [key, Option.filter_some]

theorem setPin_eq (l : Lookup) (k : CellKey) (v : Bool) : l.setPin k v =
    { l with records := l.records.map fun c => c.map fun c => if c.key = k then { c with pinned := v } else c } := by
  refine congrArg (fun rs => { l with records := rs }) (List.map_congr_left fun c _ => ?_)
  cases c with
  | none => rfl
  | some c => by_cases key : c.key = k <;> simp [key]

theorem without_key (k : CellKey) (ks : List CellKey) : (ks.filter fun k' => k' != k) = ks.filter (· ≠ k) :=
  List.filter_congr fun k' _ => by rw [bne, decide_not]; rfl

theorem purgeKey_eq {s : State} (c : Consistent s.lookup) (k : CellKey) : s.purgeKey k = { s with
    lookup := { s.lookup with
      records := s.lookup.records.map fun c => c.filter fun c => c.key ≠ k
      rewalk := s.lookup.rewalk.filter (· ≠ k)
      walks := s.lookup.walks.filterMap fun w => if w.key = k then Safety.purged s.lookup w else some w }
    mem := { s.mem with
      walkQueue := s.mem.walkQueue ++
        Safety.restartReads s.lookup (s.lookup.walks.filter fun w => w.key = k && !w.discarded && !w.waiters.isEmpty) } } := by
  let emptied : State := { s with lookup := { s.lookup with
    records := s.lookup.records.map fun c => c.filter fun c => c.key ≠ k
    rewalk := s.lookup.rewalk.filter (· ≠ k) } }
  have folded := foldl_edits_filter (purgeWalk_edits emptied) c.charges fun w => w.key = k && !w.discarded
  have live : emptied.lookup.walks.filter (fun w => w.key = k && !w.discarded) = (s.lookup.walkFor k).toList := c.filter_live k
  have start : s.purgeKey k = (s.lookup.walkFor k).toList.foldl State.purgeWalk emptied := by
    simp only [State.purgeKey, mapKey_none, without_key]
    cases s.lookup.walkFor k <;> rfl
  have walks : (emptied.lookup.walks.filterMap fun w =>
      if w.key = k && !w.discarded then afterPurge emptied.lookup w w else some w) =
      s.lookup.walks.filterMap fun w => if w.key = k then Safety.purged s.lookup w else some w := by
    refine List.filterMap_congr fun w _ => ?_
    rw [afterPurge_self]
    by_cases key : w.key = k
    · cases old : w.discarded <;> simp [key, old, Safety.purged, emptied, Safety.restarted]
    · simp [key]
  have read : (s.lookup.walks.filter fun w => w.key = k && !w.discarded).filter (fun w => !w.discarded && !w.waiters.isEmpty) =
      s.lookup.walks.filter fun w => w.key = k && !w.discarded && !w.waiters.isEmpty := by
    rw [List.filter_filter]
    refine List.filter_congr fun w _ => ?_
    cases w.discarded <;> simp [Bool.and_comm]
  rw [start, ← live, folded, walks, readsOfPurge_flatMap]
  exact congrArg (fun ws => withWalks _ (s.mem.walkQueue ++ Safety.restartReads s.lookup ws) emptied) read

theorem purgeEvery_eq {s : State} (c : Consistent s.lookup) : s.purgeEvery = { s with
    lookup := { s.lookup with
      records := List.replicate 32 none, rewalk := [], walks := s.lookup.walks.filterMap (Safety.purged s.lookup) }
    mem := { s.mem with
      walkQueue := s.mem.walkQueue ++
        Safety.restartReads s.lookup (s.lookup.walks.filter fun w => !w.discarded && !w.waiters.isEmpty) } } := by
  let emptied : State := { s with lookup := { s.lookup with records := List.replicate 32 none, rewalk := [] } }
  have folded := foldl_edits_filter (purgeWalk_edits emptied) c.charges fun _ => true
  have all : emptied.lookup.walks.filter (fun _ => true) = s.lookup.walks := List.filter_true _
  have walks : (emptied.lookup.walks.filterMap fun w => if true then afterPurge emptied.lookup w w else some w) =
      s.lookup.walks.filterMap (Safety.purged s.lookup) :=
    List.filterMap_congr fun w _ => (afterPurge_self emptied.lookup w).trans rfl
  rw [all, walks, readsOfPurge_flatMap] at folded
  exact folded

theorem unpinKey_eq {s : State} (c : Consistent s.lookup) (k : CellKey) : s.unpinKey k = { s with
    lookup := { s.lookup with
      records := s.lookup.records.map fun c => c.map fun c => if c.key = k then { c with pinned := false } else c
      rewalk := s.lookup.rewalk.filter (· ≠ k)
      walks := s.lookup.walks.filterMap fun w => if w.key = k && !w.discarded && w.pin then
        if w.waiters = [] ∧ w.outstanding = none then none else some { w with pin := false }
        else some w } } := by
  let released : State := { s with lookup := { s.lookup with
    records := s.lookup.records.map fun c => c.map fun c => if c.key = k then { c with pinned := false } else c
    rewalk := s.lookup.rewalk.filter (· ≠ k) } }
  have folded := foldl_edits_filter (unpinWalk_edits released) c.charges fun w => w.key = k && !w.discarded && w.pin
  have chosen : released.lookup.walks.filter (fun w => w.key = k && !w.discarded && w.pin) =
      (s.lookup.walkFor k).toList.filter Walk.pin := by
    rw [← c.filter_live k, List.filter_filter]
    exact List.filter_congr fun w _ => Bool.and_comm _ _
  have start : s.unpinKey k = ((s.lookup.walkFor k).toList.filter Walk.pin).foldl State.unpinWalk released := by
    simp only [State.unpinKey, setPin_eq, without_key]
    cases s.lookup.walkFor k with
    | none => rfl
    | some w => cases pin : w.pin <;> simp [pin, released]
  have walks : (released.lookup.walks.filterMap fun w =>
      if w.key = k && !w.discarded && w.pin then afterUnpin w w else some w) =
      s.lookup.walks.filterMap fun w => if w.key = k && !w.discarded && w.pin then
        if w.waiters = [] ∧ w.outstanding = none then none else some { w with pin := false }
        else some w := by
    refine List.filterMap_congr fun w _ => ?_
    simp only [afterUnpin, Bool.and_eq_true (List.isEmpty _), List.isEmpty_iff, Option.isNone_iff_eq_none]
  rw [start, ← chosen, folded, walks, List.flatMap_eq_nil_iff.2 fun _ _ => rfl, List.append_nil]
  rfl

/-- The walk found for a key carries a pin where any does. -/
theorem Consistent.walkPins_eq {l : Lookup} (c : Consistent l) (k : CellKey) :
    l.walkPins k = l.walks.any fun w => (w.key = k && !w.discarded) && w.pin := by
  rw [Bool.eq_iff_iff, Lookup.walkPins, Option.any_eq_true, List.any_eq_true]
  simp only [Bool.and_eq_true, decide_eq_true_eq, Bool.not_eq_true']
  constructor
  · rintro ⟨w, found, pin⟩
    obtain ⟨mem, key, live⟩ := walkFor_some found
    exact ⟨w, mem, ⟨key, live⟩, pin⟩
  · rintro ⟨w, mem, ⟨key, live⟩, pin⟩
    exact ⟨w, c.walkFor_live mem live key, pin⟩

theorem Consistent.recordPins_eq {l : Lookup} (c : Consistent l) (k : CellKey) :
    (l.find k).any CellRecord.pinned = l.records.any fun r => r.any fun r => r.key = k && r.pinned := by
  rw [Bool.eq_iff_iff, Option.any_eq_true, List.any_eq_true]
  simp only [Option.any_eq_true, Bool.and_eq_true, decide_eq_true_eq]
  constructor
  · rintro ⟨r, found, pin⟩
    obtain ⟨i, -, at_, key⟩ := find_some found
    exact ⟨some r, List.mem_of_getElem? at_, r, rfl, key, pin⟩
  · rintro ⟨-, mem, r, rfl, key, pin⟩
    obtain ⟨i, at_⟩ := List.mem_iff_getElem?.1 mem
    exact ⟨r, (c.find_cached at_ key).1, pin⟩

/-- Settles O45: each request's effect on records, walks and listed keys. -/
theorem purgesAndUnpins : Obligations.PurgesAndUnpins := by
  intro s r rest consistent l k live
  have c := (cacheConsistent_iff s).1 consistent
  refine ⟨fun takes => ?_, fun takes => ?_, fun takes => ?_⟩
  · refine answers_of_given takes.1.2.1 ((exec_taken (c := .purgeCell) (fun _ => rfl) takes rfl).trans (congrArg _ ?_))
    dsimp only
    rw [purgeKey_eq (s := withRequests rest s) c]
    rfl
  · refine answers_of_given takes.1.2.1 ((exec_taken (c := .purgeAll) (fun _ => rfl) takes rfl).trans (congrArg _ ?_))
    dsimp only
    rw [purgeEvery_eq (s := withRequests rest s) c]
    rfl
  · intro pinned
    refine answers_of_given takes.1.2.1 ((exec_taken (c := .unpinCell) (fun _ => rfl) takes rfl).trans (congrArg _ ?_))
    have isPinned : (withRequests rest s).lookup.keyPinned k = pinned := by
      rw [Lookup.keyPinned, show (withRequests rest s).lookup = l from rfl, c.recordPins_eq, c.walkPins_eq]
    dsimp only
    rw [unpinKey_eq (s := withRequests rest s) c, show paramKey r.payload = k from rfl, isPinned]
    rfl

end Sys2Proof.Proofs
end

section
/-! PROOFS. PIN_CELL by its cases, and its resume. -/

namespace Sys2Proof.Proofs
open Sys2Proof Sys2Proof.Machine

/-- A table is configured and the memory is initialized (R76, R100). -/
def Ready (s : State) : Prop := s.lookup.configured = true ∧ s.mem.state ≠ .uninitialized ∧ s.mem.state ≠ .initializing

theorem ready_iff (s : State) : (!s.lookup.configured || !s.mem.state.initialized) = true ↔ ¬Ready s := by
  unfold Ready
  cases s.lookup.configured <;> cases s.mem.state <;> decide

theorem resting_iff (v : ServiceState) : v.resting = true ↔ v = .quiescing ∨ v = .standby ∨ v = .waking := by
  cases v <;> decide

/-- No record, no walk in flight and no list holds a pin of the key (R75). -/
def Unheld (l : Lookup) (k : CellKey) : Prop :=
  (∀ (i : ℕ) (r : CellRecord), l.records[i]? = some (some r) ∧ r.key = k → r.pinned = false) ∧
    (∀ w, w ∈ l.walks ∧ w.key = k ∧ w.discarded = false → w.pin = false) ∧ k ∉ l.rewalk

theorem Consistent.heldPin_iff {l : Lookup} (c : Consistent l) (k : CellKey) :
    ((l.find k).any CellRecord.pinned || l.walkPins k || l.rewalk.contains k) = true ↔ ¬Unheld l k := by
  rw [c.recordPins_eq, c.walkPins_eq, Bool.or_eq_true, Bool.or_eq_true, List.contains_iff_mem, List.any_eq_true,
    List.any_eq_true]
  simp only [Option.any_eq_true, Bool.and_eq_true, decide_eq_true_eq, Bool.not_eq_true']
  constructor
  · rintro ((⟨-, mem, r, rfl, key, pin⟩ | ⟨w, mem, ⟨key, live⟩, pin⟩) | listed) ⟨records, walks, absent⟩
    · obtain ⟨i, at_⟩ := List.mem_iff_getElem?.1 mem
      rw [records i r ⟨at_, key⟩] at pin
      cases pin
    · rw [walks w ⟨mem, key, live⟩] at pin
      cases pin
    · exact absent listed
  · intro held
    by_contra free
    push Not at free
    obtain ⟨⟨records, walks⟩, absent⟩ := free
    refine held ⟨fun i r ⟨at_, key⟩ => ?_, fun w ⟨mem, key, live⟩ => ?_, absent⟩
    · exact Bool.eq_false_iff.2 fun pin => records (some r) (List.mem_of_getElem? at_) r rfl key pin
    · exact Bool.eq_false_iff.2 fun pin => walks w mem ⟨key, live⟩ pin

/-- The cases of R76, by where the key stands. -/
theorem Consistent.pinCase_eq {s : State} (c : Consistent s.lookup) (k : CellKey) [Decidable (Ready s)]
    [Decidable (Unheld s.lookup k)] : s.pinCase k =
    if ¬Ready s then .refused .notReady
    else if ¬Unheld s.lookup k then .held
    else if (s.lookup.find k).isSome = true ∧ s.lookup.pinCount < 24 then .record
    else if 24 ≤ s.lookup.pinCount then .refused .pinLimit
    else if s.service = .quiescing ∨ s.service = .standby ∨ s.service = .waking then .refused .wrongState
    else (s.lookup.walkFor k).elim (if s.lookup.chargeFree .management = true then .newWalk else .wait) .joinWalk := by
  have recorded : ((s.lookup.find k).isSome && decide (s.lookup.pinCount < Config.pinLimit)) = true ↔
      (s.lookup.find k).isSome = true ∧ s.lookup.pinCount < 24 := by
    rw [Bool.and_eq_true, decide_eq_true_eq, Config.pinLimit]
  have full : (s.lookup.pinCount ≥ Config.pinLimit) = (24 ≤ s.lookup.pinCount) := rfl
  cases walk : s.lookup.walkFor k <;>
    simp only [State.pinCase, walk, ready_iff, c.heldPin_iff, recorded, full, resting_iff, Option.elim]

theorem chargeFree_iff_forall (l : Lookup) (ch : Charge) : l.chargeFree ch = true ↔ ∀ w ∈ l.walks, w.charge ≠ ch := by
  simp [Lookup.chargeFree]

/-- What PIN_CELL does in a case (R76). -/
def pinDone (s : State) (tag : Byte) (k : CellKey) : PinCase → State
  | .refused st => s.giveAnswer tag 18 st []
  | .held => s.giveAnswer tag 18 .ok (s.lookup.pinAnswer k)
  | .record => { s with lookup := s.lookup.setPin k true }.giveAnswer tag 18 .ok ((s.lookup.setPin k true).pinAnswer k)
  | .joinWalk w =>
    { s with lookup := s.lookup.mapWalk w.charge fun w => { w with pin := true } }.keepInHand tag (.pinForWalk k)
  | .newWalk => (s.startWalk .management k [] true).keepInHand tag (.pinForWalk k)
  | .wait => s.keepInHand tag (.pinForCharge k)

theorem pinKey_eq (s : State) (tag : Byte) (k : CellKey) : s.pinKey tag k = pinDone s tag k (s.pinCase k) := by
  unfold State.pinKey
  cases s.pinCase k <;> rfl

/-- The record of a key pinned: its place alone has changed. -/
theorem Consistent.setPin_cached {l : Lookup} (c : Consistent l) {i : ℕ} {r : CellRecord} {k : CellKey}
    (at_ : l.records[i]? = some (some r)) (key : r.key = k) :
    l.setPin k true = { l with records := l.records.set i (some { r with pinned := true }) } := by
  rw [setPin_eq]
  refine congrArg (fun rs => { l with records := rs }) (List.ext_getElem? fun j => ?_)
  rw [List.getElem?_map, List.getElem?_set]
  by_cases here : i = j
  · subst here
    obtain ⟨lt, value⟩ := List.getElem?_eq_some_iff.1 at_
    simp [value, key, lt]
  · rw [if_neg here]
    cases there : l.records[j]? with
    | none => rfl
    | some o =>
      cases o with
      | none => rfl
      | some r' =>
        have other : r'.key ≠ k := fun key' => here (c.index_unique at_ there (key.trans key'.symm))
        simp [other]

/-- PIN_CELL's data of a cached key: its record's index and marks (R177). -/
theorem Consistent.pinAnswer_cached {l : Lookup} (c : Consistent l) {i : ℕ} {r : CellRecord} {k : CellKey}
    (at_ : l.records[i]? = some (some r)) (key : r.key = k) : l.pinAnswer k = pinData i r := by
  obtain ⟨found, index⟩ := c.find_cached at_ key
  simp only [Lookup.pinAnswer, found, index, Option.getD_some]

/-- A pin does not move a key's record nor change its marks. -/
theorem setPin_pinAnswer (l : Lookup) (k : CellKey) (v : Bool) : (l.setPin k v).pinAnswer k = l.pinAnswer k := by
  have index : recordIndex k (l.setPin k v).records = recordIndex k l.records := by
    rw [setPin_eq, recordIndex, recordIndex, List.findIdx?_map]
    congr 1
    funext o
    cases o with
    | none => rfl
    | some r => by_cases key : r.key = k <;> simp [key]
  have found : (l.setPin k v).find k = (l.find k).map fun r => if r.key = k then { r with pinned := v } else r := by
    rw [Lookup.find, Lookup.find, index, Option.map_bind]
    congr 1
    funext i
    simp only [setPin_eq, Function.comp, recordAt, List.getD_eq_getElem?_getD, List.getElem?_map]
    cases l.records[i]? <;> rfl
  rw [Lookup.pinAnswer, Lookup.pinAnswer, found, index]
  cases l.find k with
  | none => rfl
  | some r => by_cases key : r.key = k <;> simp [key, pinData]

/-- An answer given, none being held. -/
theorem giveAnswer_given {s : State} (held : s.mgmt.held = none) (tag : Byte) (kind : ℕ) {st : Status} {data : List Byte}
    (plain : st ≠ .ok → data = [] := by simp) :
    s.giveAnswer tag kind st data = Safety.given s (Safety.answer tag kind st data) := by
  rw [State.giveAnswer_eq _ _ _ _ _ held, answerFrame_eq]
  split
  · rfl
  · rw [plain ‹_›]

/-- Settles O46: the cases of R76 one by one, for the request and for its resume. -/
theorem pinsTaken : Obligations.PinsTaken := by
  intro s tag k consistent l outcome
  have c : Consistent l := (cacheConsistent_iff s).1 consistent
  have taken (i : Instr) (rest : List Request) (held : s.mgmt.held = none)
      (run : exec i s = .next ((withRequests rest s).pinKey tag k)) : outcome i (withRequests rest s) := by
    let b := withRequests rest s
    have case_ : b.pinCase k = _ := open Classical in Consistent.pinCase_eq (s := b) c k
    have runs {p : PinCase} (is : b.pinCase k = p) : exec i s = .next (pinDone b tag k p) := by
      rw [run, pinKey_eq, show (withRequests rest s).pinCase k = p from is]
    have gives (l' : Lookup) (st : Status) (data : List Byte) (plain : st ≠ .ok → data = []) :
        { b with lookup := l' }.giveAnswer tag 18 st data =
          Safety.given { b with lookup := l' } (Safety.answer tag 18 st data) :=
      giveAnswer_given (s := { b with lookup := l' }) held tag 18 plain
    dsimp only [outcome]
    refine ⟨fun notReady => ?_, fun isReady i r at_ pin => ?_, fun isReady pinned => ?_, fun isReady free i r at_ room => ?_,
      fun isReady free full => ?_, fun isReady ⟨free, room, noRecord⟩ rests => ?_,
      fun isReady ⟨free, room, noRecord⟩ awake => ⟨fun w isLive => ?_, fun noWalk => ⟨fun chargeFree => ?_, fun chargeHeld => ?_⟩⟩⟩
    · rw [if_pos (show ¬Ready b from notReady)] at case_
      exact (runs case_).trans (congrArg _ (gives l _ _ fun _ => rfl))
    · have isHeld : ¬Unheld l k := fun free => by
        rw [free.1 i r at_] at pin
        cases pin
      rw [if_neg (not_not.2 (show Ready b from isReady)), if_pos (show ¬Unheld b.lookup k from isHeld)] at case_
      have answer := (runs case_).trans (congrArg _ (gives l _ (l.pinAnswer k) nofun))
      rw [c.pinAnswer_cached at_.1 at_.2] at answer
      exact answer
    · have isHeld : ¬Unheld l k := fun ⟨_, walks, absent⟩ => by
        rcases pinned with listed | ⟨w, live, pin⟩
        · exact absent listed
        · rw [walks w live] at pin
          cases pin
      have noRecord : l.find k = none := (find_eq_none_iff l k).2 fun cached => by
        obtain ⟨noWalk, unlisted⟩ := c.one_place.1 cached
        rcases pinned with listed | ⟨w, ⟨mem, key, live⟩, -⟩
        · exact unlisted listed
        · exact noWalk (mem_liveKeys.2 ⟨w, mem, live, key⟩)
      rw [if_neg (not_not.2 (show Ready b from isReady)), if_pos (show ¬Unheld b.lookup k from isHeld)] at case_
      have answer := (runs case_).trans (congrArg _ (gives l _ (l.pinAnswer k) nofun))
      rw [show l.pinAnswer k = [0, 0, 0] by rw [Lookup.pinAnswer, noRecord]] at answer
      exact answer
    · have found := (c.find_cached at_.1 at_.2).1
      have isRecord : (b.lookup.find k).isSome = true ∧ b.lookup.pinCount < 24 := ⟨by rw [show b.lookup.find k = _ from found]; rfl, room⟩
      rw [if_neg (not_not.2 (show Ready b from isReady)), if_neg (not_not.2 (show Unheld b.lookup k from free)),
        if_pos isRecord] at case_
      have answer := (runs case_).trans (congrArg _ (gives (l.setPin k true) _ ((l.setPin k true).pinAnswer k) nofun))
      rw [setPin_pinAnswer, c.pinAnswer_cached at_.1 at_.2, c.setPin_cached at_.1 at_.2] at answer
      exact answer
    · have noRecord : ¬((b.lookup.find k).isSome = true ∧ b.lookup.pinCount < 24) := fun h => absurd full (Nat.not_le.2 h.2)
      rw [if_neg (not_not.2 (show Ready b from isReady)), if_neg (not_not.2 (show Unheld b.lookup k from free)),
        if_neg noRecord, if_pos (show 24 ≤ b.lookup.pinCount from full)] at case_
      exact (runs case_).trans (congrArg _ (gives l _ _ fun _ => rfl))
    all_goals
      have absent : b.lookup.find k = none := (find_eq_none_iff l k).2 fun cached => by
        obtain ⟨r, mem, key⟩ := mem_validKeys.1 cached
        obtain ⟨i, at_⟩ := List.mem_iff_getElem?.1 mem
        exact noRecord i r ⟨at_, key⟩
      rw [if_neg (not_not.2 (show Ready b from isReady)), if_neg (not_not.2 (show Unheld b.lookup k from free)), absent,
        if_neg (by simp), if_neg (show ¬24 ≤ b.lookup.pinCount from Nat.not_le.2 room), show b.service = s.service from rfl] at case_
    · rw [if_pos rests] at case_
      exact (runs case_).trans (congrArg _ (gives l _ _ fun _ => rfl))
    all_goals rw [if_neg awake] at case_
    · rw [show b.lookup.walkFor k = some w from c.walkFor_live isLive.1 isLive.2.2 isLive.2.1] at case_
      rw [List.append_nil]
      exact runs case_
    all_goals
      rw [show b.lookup.walkFor k = none from (walkFor_eq_none_iff l k).2 fun live => by
        obtain ⟨w, mem, alive, key⟩ := mem_liveKeys.1 live
        exact noWalk w ⟨mem, key, alive⟩] at case_
      dsimp only [Option.elim] at case_
    · rw [if_pos ((chargeFree_iff_forall b.lookup .management).2 chargeFree)] at case_
      exact runs case_
    · have taken : ¬b.lookup.chargeFree .management = true := fun free => by
        obtain ⟨w, mem, charge⟩ := chargeHeld
        exact (chargeFree_iff_forall b.lookup .management).1 free w mem charge
      rw [if_neg taken] at case_
      rw [List.append_nil]
      exact runs case_
  refine ⟨fun r rest takes isTag isKey => ?_, fun mgmt => ⟨fun free => ?_, fun chargeHeld => ?_⟩⟩
  · subst isTag isKey
    exact taken .pinCell rest takes.1.2.1 ((exec_taken (c := .pinCell) (fun _ => rfl) takes rfl))
  · have run : exec .pinCellResume s = .next (if s.lookup.chargeFree .management then s.pinKey tag k else s) := by
      show execPinCellResume s = _
      rw [execPinCellResume, mgmt]
    rw [if_pos ((chargeFree_iff_forall l .management).2 free)] at run
    exact taken .pinCellResume s.uplink.requests (congrArg Management.held mgmt) run
  · have run : exec .pinCellResume s = .next (if s.lookup.chargeFree .management then s.pinKey tag k else s) := by
      show execPinCellResume s = _
      rw [execPinCellResume, mgmt]
    obtain ⟨w, mem, charge⟩ := chargeHeld
    exact run.trans (congrArg _ (if_neg fun free => (chargeFree_iff_forall l .management).1 free w mem charge))

end Sys2Proof.Proofs
end

section
/-! PROOFS. POINT_STATE: its tests, and what it does by the write-back entries of its slot. -/

namespace Sys2Proof.Proofs
open Sys2Proof Sys2Proof.Machine

theorem wbHas_iff (q : List WbEntry) (b : ℕ) (sl : Slot) (ph : WbPhase) :
    wbHas q b sl ph = true ↔ ∃ e ∈ q, e.bucket = b ∧ e.slot = sl ∧ e.phase = ph := by
  simp [wbHas, and_assoc]

/-! ### Parameters -/

theorem paramSlot_isNone (p : List Byte) : (paramSlot p).isNone = true ↔ 1 < natAt 3 1 p := by
  unfold paramSlot
  split
  case h_3 not0 not1 =>
    have other : natAt 3 1 p ≠ 0 ∧ natAt 3 1 p ≠ 1 := ⟨not0, not1⟩
    simp only [Option.isNone_none, true_iff]
    omega
  all_goals
    simp only [Option.isNone_some, Bool.false_eq_true, false_iff]
    omega

theorem paramPointState_isNone (p : List Byte) : (paramPointState p).isNone = true ↔ 2 < natAt 4 1 p := by
  unfold paramPointState
  split
  case h_4 not0 not1 not2 =>
    have other : natAt 4 1 p ≠ 0 ∧ natAt 4 1 p ≠ 1 ∧ natAt 4 1 p ≠ 2 := ⟨not0, not1, not2⟩
    simp only [Option.isNone_none, true_iff]
    omega
  all_goals
    simp only [Option.isNone_some, Bool.false_eq_true, false_iff]
    omega

theorem paramSlot_of_code {p : List Byte} {sl : Slot} (h : sl.code = natAt 3 1 p) : paramSlot p = some sl := by
  rw [paramSlot, ← h]
  cases sl <;> rfl

theorem paramPointState_of_code {p : List Byte} {asked : PointState} (h : asked.code = natAt 4 1 p) :
    paramPointState p = some asked := by
  rw [paramPointState, ← h]
  cases asked <;> rfl

/-- The first status of R100 that applies, and none where the point may be set. -/
theorem pointTests_eq (s : State) (p : List Byte) : s.pointTests p =
    if s.service = .quiescing ∨ s.service = .standby ∨ s.service = .waking then some .wrongState
    else if s.lookup.configured = false ∨ s.mem.state = .uninitialized ∨ s.mem.state = .initializing then some .notReady
    else if s.lookup.bucketCount ≤ natAt 1 2 p ∨ 1 < natAt 3 1 p ∨ 2 < natAt 4 1 p then some .badValue
    else none := by
  have notReady : (!s.lookup.configured || !s.mem.state.initialized) = true ↔
      s.lookup.configured = false ∨ s.mem.state = .uninitialized ∨ s.mem.state = .initializing := by
    cases s.lookup.configured <;> cases s.mem.state <;> decide
  have values : ((paramSlot p).isNone || (paramPointState p).isNone) = true ↔ 1 < natAt 3 1 p ∨ 2 < natAt 4 1 p := by
    rw [Bool.or_eq_true, paramSlot_isNone, paramPointState_isNone]
  simp only [State.pointTests, resting_iff, notReady, values, ge_iff_le]
  by_cases high : s.lookup.bucketCount ≤ natAt 1 2 p <;> simp [high]

/-! ### What a POINT_STATE changes -/

/-- Points of one bucket and slot changed in every record. -/
theorem mapPoints_and (l : Lookup) (b : ℕ) (sl : Slot) (f : Point → Point) : l.mapPoints b sl f = { l with
    records := l.records.map fun r => r.map fun r => { r with
      points := r.points.map fun p => if p.bucket = b ∧ p.slot = sl then f p else p } } := by
  simp only [Lookup.mapPoints, Bool.and_eq_true, decide_eq_true_eq]

theorem mergeEntry_eq (s : State) (w : PointWrite) : s.mergeEntry w = { s with
    capture := { s.capture with writeback := s.capture.writeback.map fun e =>
      if e.bucket = w.bucket ∧ e.slot = w.slot ∧ e.phase = .waiting then w.onEntry e else e } } := by
  simp only [State.mergeEntry, Bool.and_eq_true, decide_eq_true_eq, and_assoc]

/-- Settles O47: the tests, the write that waits, the merge, and the own write. -/
theorem pointStateTaken : Obligations.PointStateTaken := by
  intro s holds sets shown written
  have holds_iff (b : ℕ) (sl : Slot) (ph : WbPhase) : wbHas s.capture.writeback b sl ph = true ↔ holds b sl ph :=
    wbHas_iff _ b sl ph
  have values (b : ℕ) (sl : Slot) (asked : PointState) : pointValues b sl asked =
      ⟨b, sl, asked ≠ .disabled, (sets asked).1, (sets asked).2.1, (sets asked).2.2⟩ := by cases asked <;> rfl
  have points (t : State) (lookup : t.lookup = s.lookup) (b : ℕ) (sl : Slot) (asked : PointState) :
      t.updatePoints (pointValues b sl asked) asked = { t with lookup := shown b sl asked } := by
    rw [State.updatePoints, values, lookup, mapPoints_and]
    rfl
  refine ⟨fun r rest takes => ?_, fun tag b sl asked inHand => ?_⟩
  · intro p b refused
    have run := exec_taken (c := .pointState) (fun _ => rfl) takes rfl
    have tests := pointTests_eq s p
    have refuses {st : Status} (fails : s.pointTests p = some st) (notOk : st ≠ .ok) : refused st := by
      refine answers_of_given takes.1.2.1 (run.trans (congrArg _ ?_))
      simp only [show (withRequests rest s).pointTests r.payload = some st from fails]
    split_ifs at tests ⊢
    case neg =>
      intro sl asked slot state
      simp only [show (withRequests rest s).pointTests r.payload = none from tests,
        show paramSlot r.payload = some sl from paramSlot_of_code slot,
        show paramPointState r.payload = some asked from paramPointState_of_code state] at run
      change exec .pointState s = .next ((withRequests rest s).takePointState r.tag b sl asked) at run
      have writing_iff := holds_iff b sl .writing
      have waiting_iff := holds_iff b sl .waiting
      refine ⟨fun writing => ?_, fun idle waiting => ?_, fun idle none_ => ?_⟩
      · exact run.trans (congrArg _ (if_pos (writing_iff.2 writing)))
      · refine answers_of_given takes.1.2.1 (run.trans (congrArg _ ((if_neg (mt writing_iff.1 idle)).trans
          ((if_pos (waiting_iff.2 waiting)).trans ?_))))
        rw [points (withRequests rest s) rfl, mergeEntry_eq, values]
        rfl
      · refine run.trans (congrArg _ ((if_neg (mt writing_iff.1 idle)).trans ((if_neg (mt waiting_iff.1 none_)).trans ?_)))
        rw [State.ownPointWrite, points (withRequests rest s) rfl, values]
        rfl
    all_goals exact refuses tests (by decide)
  · have run : exec .pointStateResume s = .next (if wbHas s.capture.writeback b sl .writing then s
        else s.ownPointWrite tag (pointValues b sl asked) asked) := by
      show execPointStateResume s = _
      rw [execPointStateResume, inHand]
    refine ⟨fun writing => run.trans (congrArg _ (if_pos ((holds_iff ..).2 writing))), fun idle => ?_⟩
    refine run.trans (congrArg _ ((if_neg (mt (holds_iff ..).1 idle)).trans ?_))
    rw [State.ownPointWrite, points s rfl, values]
    rfl

end Sys2Proof.Proofs
end

section
/-! PROOFS. Writes that complete and what they leave in table memory; drain reads. -/

namespace Sys2Proof.Proofs
open Sys2Proof Sys2Proof.Machine

/-! ### Slots in table memory -/

/-- Bytes of a range read are those read from the same addresses. -/
theorem field_readBytes (s : State) (a : ℕ) {off len n : ℕ} (h : off + len ≤ n) :
    field off len (s.readBytes a n) = s.readBytes (a + off) len := by
  refine List.ext_getElem (by simp [field, State.readBytes]; omega) fun i _ _ => ?_
  simp [field, State.readBytes, Nat.add_assoc]

theorem natAt_readBytes_one (s : State) (a : ℕ) {off n : ℕ} (h : off + 1 ≤ n) :
    natAt off 1 (s.readBytes a n) = (s.readByte (a + off)).toNat := by
  rw [natAt, field_readBytes s a h]
  rfl

/-- A slot's status byte: the two marks replaced, the other bits as they were (R157). -/
theorem statusWith_bit (old : Byte) (enabled captured : Bool) {i : ℕ} (h : i < 8) :
    (byteOf (statusWith old.toNat enabled captured)).getLsbD i =
      if i = 1 then enabled else if i = 2 then captured else old.getLsbD i := by
  rw [byteOf, BitVec.getLsbD_ofNat, decide_eq_true h, Bool.true_and, BitVec.getLsbD, Nat.testBit_eq_decide_div_mod_eq,
    Nat.testBit_eq_decide_div_mod_eq, statusWith]
  interval_cases i <;> cases enabled <;> cases captured <;> simp <;> omega

/-- What a slot write stores: bytes 24 to 28 and the marks, and no other byte (R135, R157). -/
theorem slotWritten (s : State) (a : ℕ) (enabled captured : Bool) (head number : ℕ) :
    (∀ x, x ≠ a → (s.writeSlot a enabled captured head number).readByte x =
      if a + 24 ≤ x ∧ x < a + 29 then (byteOf head :: natLE 4 number).getD (x - (a + 24)) 0 else s.readByte x) ∧
    (∀ i, i < 8 → ((s.writeSlot a enabled captured head number).readByte a).getLsbD i =
      if i = 1 then enabled else if i = 2 then captured else (s.readByte a).getLsbD i) := by
  refine ⟨fun x other => ?_, fun i lt => ?_⟩
  · rw [State.readByte_writeSlot, if_neg other]
  · rw [State.readByte_writeSlot, if_neg (by omega), if_pos rfl, statusWith_bit _ _ _ lt]

theorem padTo_getD (n : ℕ) (bs : List Byte) {j : ℕ} (h : j < n) : (padTo n bs).getD j 0 = bs.getD j 0 := by
  by_cases lt : j < bs.length
  · simp [padTo, List.getD_eq_getElem?_getD, List.getElem?_append, lt, h]
  · rw [padTo, List.take_of_length_le (by omega), List.getD_append_right _ _ _ _ (by omega), List.getD_eq_default bs _ (by omega)]
    simp

/-! ### Write-backs, POINT_STATE writes and spill writes -/

theorem withinMemory_slot {base b : ℕ} {sl : Slot} (inside : base + b * 64 + slotOffset sl + 30 ≤ 67108864) (s : State) :
    withinMemory (slotAddress base b sl) Config.slotBytes s = .next s := withinMemory_next inside s

theorem writebackDone_run {s : State} {b : ℕ} {sl : Slot} {g d : ℕ} {e : WbEntry}
    (running : s.mem.running = some ⟨.writeback b sl, g, d⟩)
    (inside : s.lookup.base + b * 64 + slotOffset sl + 30 ≤ 67108864)
    (entry : s.capture.writeback.find? (fun e => e.bucket = b && e.slot = sl && e.phase = .writing) = some e) :
    exec .writebackDone s = .next { s with
      cells := (s.writeSlot (s.lookup.base + b * 64 + slotOffset sl) e.enabled e.captured e.capHead e.capNumber).cells
      mem := { s.mem with running := none }
      capture := { s.capture with writeback := s.capture.writeback.filter fun e =>
        ¬(e.bucket = b ∧ e.slot = sl ∧ e.phase = .writing) } } := by
  have found : writingEntry s.capture.writeback b sl = some e := entry
  have own : e.bucket = b ∧ e.slot = sl := by
    have is := List.find?_some entry
    simp only [Bool.and_eq_true, decide_eq_true_eq] at is
    exact is.1
  obtain ⟨rfl, rfl⟩ := own
  have run : exec .writebackDone s = withinMemory (slotAddress s.lookup.base e.bucket e.slot) Config.slotBytes
      (s.endAccess.completeWriteback e) := by
    show execWritebackDone s = _
    simp only [execWritebackDone, State.access, running, Option.map_some, found]
  have others : (fun e' : WbEntry => !(e'.bucket = e.bucket && e'.slot = e.slot && e'.phase = .writing)) =
      fun e' => decide ¬(e'.bucket = e.bucket ∧ e'.slot = e.slot ∧ e'.phase = .writing) := by
    funext e'
    simp only [Bool.and_assoc, decide_not, Bool.decide_and]
  rw [run, withinMemory_slot inside, State.completeWriteback, others]
  rfl

/-- What an own write leaves in its slot, by the bytes that stood there (R101, R135). -/
theorem pointWritten_eq (s : State) (w : PointWrite) :
    let a := s.lookup.base + w.bucket * 64 + slotOffset w.slot
    s.pointWritten w = (w.enabled, w.captured.getD ((s.readByte a).getLsbD 2), w.capHead.getD (s.readByte (a + 24)).toNat,
      w.capNumber.getD (leNat ((List.range 4).map fun i => s.readByte (a + 25 + i)))) := by
  intro a
  have number : natAt 25 4 (s.readBytes a 30) = leNat ((List.range 4).map fun i => s.readByte (a + 25 + i)) := by
    rw [natAt, field_readBytes s a (by decide)]
    rfl
  have address : slotAddress s.lookup.base w.bucket w.slot = a := rfl
  have size : Config.slotBytes = 30 := rfl
  rw [State.pointWritten, address, size, number, natAt_readBytes_one s a (by decide), natAt_readBytes_one s a (by decide)]
  rfl

theorem pointStateWriteDone_run {s : State} {w : PointWrite} {g d : ℕ} {tag : Byte} {b : ℕ} {sl : Slot}
    (running : s.mem.running = some ⟨.mgmt (.point w), g, d⟩)
    (inside : s.lookup.base + w.bucket * 64 + slotOffset w.slot + 30 ≤ 67108864)
    (mgmt : s.mgmt = ⟨some ⟨tag, .pointWrite b sl⟩, none⟩) (distinct : (s.lookup.walks.map Walk.charge).Nodup) :
    let v := s.pointWritten w
    let stale (u : Walk) : Bool := !u.discarded && (u.visited.contains w.bucket || u.outstanding = some w.bucket)
    exec .pointStateWriteDone s = .next (Safety.given { s with
      cells := (s.writeSlot (s.lookup.base + w.bucket * 64 + slotOffset w.slot) v.1 v.2.1 v.2.2.1 v.2.2.2).cells
      mem := { s.mem with
        running := none
        walkQueue := s.mem.walkQueue ++ Safety.restartReads s.lookup (s.lookup.walks.filter stale) }
      lookup := { s.lookup with
        walks := s.lookup.walks.map fun u => if stale u then Safety.restarted s.lookup u else u
        records := s.lookup.records.map fun r => r.map fun r => { r with
          points := r.points.map fun p => if p.bucket = w.bucket ∧ p.slot = w.slot then
            { p with state := pointStateOf v.1 v.2.1, capHead := v.2.2.1, capNumber := v.2.2.2 } else p } } }
      (Safety.answer tag 20 .ok [])) := by
  intro v stale
  have run : exec .pointStateWriteDone s = withinMemory (slotAddress s.lookup.base w.bucket w.slot) Config.slotBytes
      ((s.endAccess.completePointWrite w).answerInHand .ok []) := by
    show execPointStateWriteDone s = _
    simp only [execPointStateWriteDone, State.access, running, mgmt, Option.map_some]
  let stored : State := { s.endAccess with
    cells := (s.writeSlot (s.lookup.base + w.bucket * 64 + slotOffset w.slot) v.1 v.2.1 v.2.2.1 v.2.2.2).cells
    lookup := s.lookup.mapPoints w.bucket w.slot fun p =>
      { p with state := pointStateOf v.1 v.2.1, capHead := v.2.2.1, capNumber := v.2.2.2 } }
  have touches (u : Walk) : (!u.discarded && u.touches fun b => b = w.bucket) = stale u := by
    have read : (u.visited.any fun b => b = w.bucket) = u.visited.contains w.bucket := by
      rw [Bool.eq_iff_iff, List.any_eq_true, List.contains_iff_mem]
      simp
    have reading : (u.outstanding.any fun b => b = w.bucket) = decide (u.outstanding = some w.bucket) := by
      cases u.outstanding <;> simp
    simp only [stale, Walk.touches, read, reading]
  have completed : s.endAccess.completePointWrite w = _ := restartTouching_eq (s := stored) distinct fun b => b = w.bucket
  simp only [touches] at completed
  have kept : (s.endAccess.completePointWrite w).mgmt = s.mgmt := by rw [completed]; rfl
  rw [run, withinMemory_slot inside, answerInHand_given (by rw [kept, mgmt]) (by rw [kept, mgmt]), completed]
  simp only [stored, mapPoints_and]
  rfl

theorem pointStateOf_eq (enabled captured : Bool) : pointStateOf enabled captured =
    if enabled then if captured then .captured else .open else .disabled := by cases enabled <;> rfl

theorem spillWriteDone_run {s : State} {pos g d : ℕ} {w : SpillWrite}
    (running : s.mem.running = some ⟨.spill (.write pos), g, d⟩) (inside : s.spill.base + pos * 64 + 64 ≤ 67108864)
    (outstanding : s.spill.writes.find? (fun w => w.pos = pos) = some w) :
    exec .spillWriteDone s = .next { s with
      cells := (s.writeBytes (s.spill.base + pos * 64) (padTo 64 w.data)).cells
      mem := { s.mem with running := none }
      spill := { s.spill with writes := s.spill.writes.filter fun w => w.pos ≠ pos } } := by
  have found : spillWriteAt s.spill.writes pos = some w := outstanding
  have own : w.pos = pos := of_decide_eq_true (List.find?_some (p := fun w : SpillWrite => decide (w.pos = pos)) outstanding)
  subst own
  have run : exec .spillWriteDone s = withinMemory (spillAddress s.spill.base w.pos) Config.bucketBytes
      (s.endAccess.completeSpillWrite w) := by
    show execSpillWriteDone s = _
    simp only [execSpillWriteDone, State.access, running, Option.map_some, found]
  rw [run]
  exact withinMemory_next inside _

/-- Settles O48: each completion, and the bytes it stores. -/
theorem writesComplete : Obligations.WritesComplete := by
  intro s canonical ended slotAt slotWritten'
  refine ⟨fun b sl g d e running inside entry => ?_, fun w g d tag b sl running inside mgmt distinct => ?_,
    fun pos g d w running inside outstanding => ?_⟩
  · exact ⟨_, slotWritten s _ _ _ _ _, writebackDone_run running inside entry⟩
  · intro a captured head number stale st
    have values := pointWritten_eq s w
    have run := pointStateWriteDone_run running inside mgmt distinct
    simp only [values, pointStateOf_eq] at run
    exact ⟨_, slotWritten s a w.enabled captured head number, run⟩
  · refine ⟨_, fun x => ?_, spillWriteDone_run running inside outstanding⟩
    have read := s.readByte_writeBytes (s.spill.base + pos * 64) x (padTo 64 w.data)
    rw [padTo_length] at read
    refine read.trans ?_
    split
    case isTrue here => exact padTo_getD 64 w.data (by omega)
    case isFalse => rfl

end Sys2Proof.Proofs
end

section
/-! PROOFS. Drain reads: their start, and the frames that enter in ring order. -/

namespace Sys2Proof.Proofs
open Sys2Proof Sys2Proof.Machine

/-- With a frame in the queue the transmitter's choice is made once: more frames behind change nothing. -/
theorem choose_again (u : Uplink) (r : ReportFrame) (q l : List ReportFrame) :
    (u.choose (r :: q)).choose (r :: l) = u.choose (r :: l) := by
  by_cases idle : (!u.up || u.sending.isSome) = true
  · have stays (q : List ReportFrame) : u.choose q = u := if_pos idle
    rw [stays, stays]
  · obtain ⟨v, sends, chosen⟩ : ∃ v : Uplink, v.sending.isSome = true ∧ ∀ q, u.choose (r :: q) = v := by
      cases forward : u.forward with
      | nil => exact ⟨u.sendReport r, rfl, fun q => by simp only [Uplink.choose, if_neg idle, forward]⟩
      | cons f fs =>
        refine ⟨if u.servedReport then u.sendForward f else u.sendReport r, ?_, fun q => by
          simp only [Uplink.choose, if_neg idle, forward]⟩
        split <;> rfl
    have stays : v.choose (r :: l) = v := if_pos (by rw [sends, Bool.or_true])
    rw [chosen, chosen, stays]

/-- The frame a drain makes of its record (R107). -/
def drainFrame (d : Drain) : ReportFrame := ⟨.capture, (d.data.getD []).take 42⟩

/-- The state once the drains done have entered, of those in ring order. -/
def drained (s : State) (ds : List Drain) : State :=
  let done := ds.takeWhile fun d => d.data.isSome
  let queue := s.report.queue ++ done.map drainFrame
  { s with
    spill := { s.spill with
      drains := ds.dropWhile fun d => d.data.isSome
      readPos := (s.spill.readPos + done.length) % 512, count := s.spill.count - done.length }
    report := { s.report with queue := queue, reserved := s.report.reserved - done.length }
    uplink := if done = [] then s.uplink else s.uplink.choose queue }

/-- With no drain done in front, none enters. -/
theorem drained_of_none {s : State} {ds : List Drain} (drains : s.spill.drains = ds) (pos : s.spill.readPos < 512)
    (none_ : ds.takeWhile (fun d => d.data.isSome) = []) (all : ds.dropWhile (fun d => d.data.isSome) = ds) :
    drained s ds = s := by
  subst drains
  simp only [drained, none_, all, List.length_nil, List.map_nil, List.append_nil, Nat.add_zero, Nat.mod_eq_of_lt pos,
    Nat.sub_zero, if_true]

theorem releaseDrains_eq {s : State} {ds : List Drain} (drains : s.spill.drains = ds) (pos : s.spill.readPos < 512) :
    s.releaseDrains ds = drained s ds := by
  induction ds generalizing s with
  | nil => exact (drained_of_none drains pos rfl rfl).symm
  | cons d rest ih =>
    obtain ⟨p, data⟩ := d
    cases data with
    | none => exact (drained_of_none drains pos rfl rfl).symm
    | some bs =>
      rw [State.releaseDrains, ih rfl (Nat.mod_lt _ (by decide))]
      let q := s.report.queue ++ [drainFrame ⟨p, some bs⟩]
      let done := rest.takeWhile fun d => d.data.isSome
      have uplink : (if done = [] then s.uplink.choose q else (s.uplink.choose q).choose (q ++ done.map drainFrame)) =
          s.uplink.choose (q ++ done.map drainFrame) := by
        split
        case isTrue none_ => rw [none_, List.map_nil, List.append_nil]
        case isFalse =>
          obtain ⟨r, l, eq⟩ := List.exists_cons_of_ne_nil (show q ≠ [] by simp [q])
          rw [eq]
          exact choose_again _ _ _ _
      have wrapped : ((s.spill.readPos + 1) % 512 + done.length) % 512 = (s.spill.readPos + (done.length + 1)) % 512 := by omega
      have less (n : ℕ) : n - 1 - done.length = n - (done.length + 1) := by omega
      have frames : s.report.queue ++ drainFrame ⟨p, some bs⟩ :: done.map drainFrame = q ++ done.map drainFrame := by simp [q]
      have taken : (⟨p, some bs⟩ :: rest : List Drain).takeWhile (fun d => d.data.isSome) = ⟨p, some bs⟩ :: done := rfl
      have left : (⟨p, some bs⟩ :: rest : List Drain).dropWhile (fun d => d.data.isSome) =
        rest.dropWhile fun d => d.data.isSome := rfl
      unfold drained
      rw [taken, left]
      simp only [List.length_cons, List.map_cons, frames, ← wrapped, ← less, ← uplink, reduceCtorEq, if_false]
      rfl

/-- Settles O49: the start of a drain read, and what its completion lets enter. -/
theorem drainsInOrder : Obligations.DrainsInOrder := by
  refine ⟨fun s => ?_, fun s pos g d running inside held => ?_⟩
  · intro next starts
    have run : exec .drainReadStart s =
        .next (if s.drainWaits && s.mgmt.held.isNone && s.report.placeFree then s.startDrain else s) := rfl
    have may : (s.drainWaits && s.mgmt.held.isNone && s.report.placeFree) = true ↔ starts := by
      simp only [State.drainWaits, spillWriteAt, Report.placeFree, Bool.and_eq_true, Bool.or_eq_true, decide_eq_true_eq,
        Bool.not_eq_true', Option.isNone_iff_eq_none, List.find?_eq_none, starts, and_assoc]
      rfl
    refine ⟨fun yes => run.trans (congrArg _ ((if_pos (may.2 yes)).trans ?_)), fun no => run.trans (congrArg _ (if_neg (mt may.1 no)))⟩
    simp only [State.startDrain, State.reserve, State.afterRise_eq]
    rfl
  · intro record drains done queue
    have run : exec .drainReadDone s = withinMemory (spillAddress s.spill.base pos) Config.bucketBytes
        (s.endAccess.completeDrainRead pos (s.readBytes (spillAddress s.spill.base pos) Config.bucketBytes)) := by
      show execDrainReadDone s = _
      simp only [execDrainReadDone, State.access, running, Option.map_some]
    have completed : s.endAccess.completeDrainRead pos record =
        drained { s.endAccess with spill := { s.spill with drains := drains } } drains := releaseDrains_eq rfl held
    exact run.trans ((withinMemory_next inside _).trans (congrArg _ completed))

end Sys2Proof.Proofs
end

section
/-! PROOFS. HEAD_MODE: the rows that share its kind, and what ENABLE, DISABLE and AIM leave. -/

namespace Sys2Proof.Proofs
open Sys2Proof Sys2Proof.Machine

/-- A row of HEAD_MODE: refused for an unknown mode or head, nothing for another row's mode, and otherwise its work (log 14). -/
theorem headMode_row {c : Instr} {m : ℕ} {work : Request → State → Head → State}
    (run : ∀ s, exec c s = .next (s.serve 21 (headModeOf m) fun s r => s.headMode r (work r))) (known : m ≤ 2)
    {s : State} {r : Request} {rest : List Request} (takes : Safety.Takes s 21 r rest) :
    (2 < natAt 2 1 r.payload ∨ natAt 2 1 r.payload = m ∧ 3 < natAt 1 1 r.payload →
      Safety.Answers c s rest (Safety.answer r.tag 21 .badValue []) s) ∧
    (natAt 2 1 r.payload ≤ 2 → natAt 2 1 r.payload ≠ m → exec c s = .next s) ∧
    (∀ n, natAt 2 1 r.payload = m → headNumber n = natAt 1 1 r.payload → exec c s = .next (work r (withRequests rest s) n)) := by
  have length : headModeLength r.payload = true := takes.2.2
  have takes_iff : headModeOf m r.payload = true ↔ natAt 2 1 r.payload = m ∨ 2 < natAt 2 1 r.payload := by
    simp only [headModeOf, length, Bool.not_true, Bool.false_or, Bool.or_eq_true, decide_eq_true_eq]
    exact Iff.rfl
  refine ⟨fun bad => ?_, fun mode other => ?_, fun n mode head => ?_⟩
  · have run' := exec_taken run takes (takes_iff.2 (bad.symm.imp_left And.left))
    refine answers_of_given takes.1.2.1 (run'.trans (congrArg _ ?_))
    rcases bad with unknown | ⟨-, large⟩
    · rw [State.headMode, paramHead]
      cases headOf (natAt 1 1 r.payload) with
      | none => rfl
      | some n => exact if_pos unknown
    · rw [State.headMode, paramHead, headOf_of_large large]
  · refine (run s).trans (congrArg _ (serve_of_other takes.1 fun ⟨_, is⟩ => ?_))
    rcases takes_iff.1 is with own | unknown
    · exact other own
    · exact absurd mode (Nat.not_le.2 unknown)
  · have run' := exec_taken run takes (takes_iff.2 (.inl mode))
    refine run'.trans (congrArg _ ?_)
    rw [State.headMode, paramHead, headOf_headNumber head]
    exact if_neg (Nat.not_lt.2 ((show modeByte r.payload = m from mode) ▸ known))

/-- A search started around its centre: the centre is the first position (R45, R47, R51). -/
theorem startSearch_centre (s : State) (n : Head) (c : Context) {az el : Int} (turn : az % 16777216 = az)
    (range : clampElevation el = el) (cause : StateCause) : ∃ i k,
    (∀ e, (s.headTime.get n).history.getLast? = some e → i = e.index ∧ k = s.freeCount) ∧
    s.startSearch n c az el true cause = Safety.changed { s with freeCount := k } n { c with
      state := .searching, timer := (s.settings.get n).searchDwell
      search := some (startRecord (s.settings.get n) az el true) } cause (some (Safety.aim i 1 3 az el)) := by
  have angles : (startRecord (s.settings.get n) az el true).angles = (az, el) := by
    simp [startRecord, SearchRecord.angles, ringOffset, Config.turn, turn, range]
  refine ⟨s.steerIndex n, if (s.ports.get n).up ∧ latestIndex (s.headTime.get n) = none then s.freeCount + 1 else s.freeCount,
    fun e newest => ?_, ?_⟩
  · have index : latestIndex (s.headTime.get n) = some e.index := by rw [latestIndex, newest]; rfl
    simp [State.steerIndex, index]
  · rw [State.startSearch, State.steerSearch, steer_eq, angles]
    rfl

/-- Settles O50: the rows, and each mode's refusal and work. -/
theorem headModes : Obligations.HeadModes := by
  intro s r rest takes p answered mode rows
  have enable := headMode_row (c := .headModeEnable) (m := 0) (fun _ => rfl) (by decide) takes
  have disable := headMode_row (c := .headModeDisable) (m := 1) (fun _ => rfl) (by decide) takes
  have aim := headMode_row (c := .headModeAim) (m := 2) (fun _ => rfl) (by decide) takes
  refine ⟨fun c m row => ?_, fun n head => ?_⟩
  · simp only [rows, List.mem_cons, Prod.mk.injEq, List.not_mem_nil, or_false] at row
    rcases row with ⟨rfl, rfl⟩ | ⟨rfl, rfl⟩ | ⟨rfl, rfl⟩
    · exact ⟨enable.1, enable.2.1⟩
    · exact ⟨disable.1, disable.2.1⟩
    · exact ⟨aim.1, aim.2.1⟩
  · intro c taken idle
    have taken_iff : (withRequests rest s).modeTaken = true ↔ taken := by
      simp only [State.modeTaken, or_assoc, Bool.or_eq_true, decide_eq_true_eq]
      exact Iff.rfl
    have aim_iff : (withRequests rest s).aimTaken n = true ↔ (s.service = .active ∨ s.service = .hold) ∧ c.state = .lost := by
      simp only [State.aimTaken, Bool.or_eq_true, Bool.and_eq_true, decide_eq_true_eq]
      exact Iff.rfl
    have held := takes.1.2.1
    refine ⟨fun is no => ?_, fun is yes on => ?_, fun is yes off => ?_, fun is no => ?_, fun is yes off => ?_, fun is yes on => ?_,
      fun is no => ?_, fun is awake lost => ?_⟩
    · exact answers_of_given held ((enable.2.2 n is head).trans (congrArg _ (if_neg (mt taken_iff.1 no))))
    · refine answers_of_given held ((enable.2.2 n is head).trans (congrArg _ ((if_pos (taken_iff.2 yes)).trans ?_)))
      exact congrArg (fun b : State => b.giveAnswer r.tag 21 .ok []) (if_neg on)
    · refine answers_of_given held ((enable.2.2 n is head).trans (congrArg _ ((if_pos (taken_iff.2 yes)).trans ?_)))
      exact congrArg (fun b : State => b.giveAnswer r.tag 21 .ok []) (if_pos off)
    · exact answers_of_given held ((disable.2.2 n is head).trans (congrArg _ (if_neg (mt taken_iff.1 no))))
    · refine answers_of_given held ((disable.2.2 n is head).trans (congrArg _ ((if_pos (taken_iff.2 yes)).trans ?_)))
      exact congrArg (fun b : State => (b.idleTrigger n).giveAnswer r.tag 21 .ok []) (if_pos off)
    · refine answers_of_given held ((disable.2.2 n is head).trans (congrArg _ ((if_pos (taken_iff.2 yes)).trans ?_)))
      exact congrArg (fun b : State => (b.idleTrigger n).giveAnswer r.tag 21 .ok []) (if_neg on)
    · exact answers_of_given held ((aim.2.2 n is head).trans (congrArg _ (if_neg (mt aim_iff.1 no))))
    · intro t az el
      have elevation : clampElevation (intAt 7 4 p) = el := clampInt_eq (by decide) _
      have clamped : clampElevation el = el := by
        rw [← elevation]
        refine (clampInt_eq (by decide) _).trans ?_
        have quarter : Config.quarterTurn = 4194304 := rfl
        rw [elevation]
        omega
      obtain ⟨i, k, index, started⟩ := startSearch_centre (withRequests rest s) n c (az := az) (Int.emod_emod _ _) clamped .aim
      refine ⟨i, k, index, answers_of_given held ((aim.2.2 n is head).trans (congrArg _ ((if_pos (aim_iff.2 ⟨awake, lost⟩)).trans ?_)))⟩
      have angles : paramAim r.payload = (az, el) := Prod.ext rfl elevation
      rw [angles]
      exact congrArg (fun b : State => b.giveAnswer r.tag 21 .ok []) started

end Sys2Proof.Proofs
end

section
/-! PROOFS. CLEAR_FAULT and SET_SERVICE: heads parked, settle queues cleared, attempts dropped. -/

namespace Sys2Proof.Proofs
open Sys2Proof Sys2Proof.Machine

/-! ### Rows that share SET_SERVICE -/

/-- A row of SET_SERVICE: refused for an unknown target, nothing for another row's target, and otherwise its work (log 14). -/
theorem setService_row {c : Instr} {t : ℕ} {work : Request → State → State}
    (run : ∀ s, exec c s = .next (s.serve 23 (serviceTarget t) fun s r => s.setTarget r (work r))) (known : t ≤ 3)
    {s : State} {r : Request} {rest : List Request} (takes : Safety.Takes s 23 r rest) :
    (3 < natAt 1 1 r.payload → Safety.Answers c s rest (Safety.answer r.tag 23 .badValue []) s) ∧
    (natAt 1 1 r.payload ≤ 3 → natAt 1 1 r.payload ≠ t → exec c s = .next s) ∧
    (natAt 1 1 r.payload = t → exec c s = .next (work r (withRequests rest s))) := by
  have length : (decide (r.payload.length ≠ 2)) = false := by simpa [lengthAdmitted] using takes.2.2
  have takes_iff : serviceTarget t r.payload = true ↔ natAt 1 1 r.payload = t ∨ 3 < natAt 1 1 r.payload := by
    simp only [serviceTarget, length, Bool.false_or, Bool.or_eq_true, decide_eq_true_eq]
    exact Iff.rfl
  refine ⟨fun unknown => ?_, fun target other => ?_, fun target => ?_⟩
  · have run' := exec_taken run takes (takes_iff.2 (.inr unknown))
    exact answers_of_given takes.1.2.1 (run'.trans (congrArg _ (if_pos unknown)))
  · refine (run s).trans (congrArg _ (serve_of_other takes.1 fun ⟨_, is⟩ => ?_))
    exact (takes_iff.1 is).elim other fun unknown => Nat.not_lt.2 target unknown
  · have run' := exec_taken run takes (takes_iff.2 (.inl target))
    exact run'.trans (congrArg _ (if_neg (Nat.not_lt.2 ((show targetByte r.payload = t from target) ▸ known))))

/-! ### The free-value count and the hand-on of samples -/

/-- The state with another count of free values drawn. -/
def withDrawn (k : ℕ) (s : State) : State := { s with freeCount := k }

theorem reportSample_withDrawn (k : ℕ) (s : State) (n : Head) (h : Handed) :
    (withDrawn k s).reportSample n h = withDrawn k (s.reportSample n h) := by
  rw [reportSample_eq, reportSample_eq, show (withDrawn k s).report = s.report from rfl]
  dsimp only
  split_ifs
  · rw [State.enqueue_eq, State.enqueue_eq]
    rfl
  · rfl
  · rfl

theorem toCapture_withDrawn (k : ℕ) (s : State) (n : Head) (h : Handed) :
    (withDrawn k s).toCapture n h = withDrawn k (s.toCapture n h) := by
  have eligible : (withDrawn k s).eligible h = s.eligible h := rfl
  have waits : (withDrawn k s).attemptWaits n = s.attemptWaits n := rfl
  unfold State.toCapture
  rw [waits]
  split
  · rfl
  unfold State.settleWork
  rw [eligible]
  cases s.eligible h with
  | none => exact reportSample_withDrawn k (s.clearSettle n) n h
  | some bp =>
    rw [show (withDrawn k s).settle = s.settle from rfl]
    dsimp only
    split
    · rfl
    · exact reportSample_withDrawn k (s.setSettle n _) n h

theorem endAttempt_withDrawn (k : ℕ) (s : State) (a : Attempt) : (withDrawn k s).endAttempt a = withDrawn k (s.endAttempt a) := by
  have follow (l : List Handed) (t : State) : l.foldl (fun t h => t.toCapture a.head h) (withDrawn k t) =
      withDrawn k (l.foldl (fun t h => t.toCapture a.head h) t) :=
    List.foldl_hom (withDrawn k) fun t h => toCapture_withDrawn k t a.head h
  rw [State.endAttempt, reportSample_withDrawn]
  exact follow ((s.reportSample a.head a.handed).behind.get a.head) ((s.reportSample a.head a.handed).setBehind a.head [])

theorem endAttempts_withDrawn (k : ℕ) (l : List Attempt) (s : State) :
    l.foldl State.endAttempt (withDrawn k s) = withDrawn k (l.foldl State.endAttempt s) :=
  List.foldl_hom (withDrawn k) fun s a => endAttempt_withDrawn k s a

theorem finishedLate_withRequests (rest : List Request) (s : State) (n : Head) :
    Safety.finishedLate (withRequests rest s) n = withRequests rest (Safety.finishedLate s n) := by
  rw [← finishLate_eq, ← finishLate_eq]
  cases waiting : s.waiting.get n with
  | none =>
    have waiting' : (withRequests rest s).waiting.get n = none := waiting
    rw [State.finishLate, State.finishLate, waiting, waiting']
  | some w =>
    have waiting' : (withRequests rest s).waiting.get n = some w := waiting
    rw [finishLate_of_waiting waiting, finishLate_of_waiting waiting']
    exact toCapture_withRequests rest { s with waiting := s.waiting.set n none } n _

theorem finishedLates_withRequests (rest : List Request) (order : List Head) (s : State) :
    order.foldl Safety.finishedLate (withRequests rest s) = withRequests rest (order.foldl Safety.finishedLate s) :=
  List.foldl_hom (withRequests rest) fun s n => finishedLate_withRequests rest s n

/-! ### Samples handed on outside ACTIVE -/

/-- Outside ACTIVE with no attempt waiting and every settle queue empty: no sample can make an attempt wait (R86, R89). -/
structure NothingSettles (s : State) : Prop where
  service : s.service ≠ .active
  attempts : s.capture.waiting = []
  settle : s.settle = .all ⟨[], none, none⟩

theorem nothingSettles_of_eq {s t : State} (h : NothingSettles s) (service : t.service = s.service)
    (capture : t.capture = s.capture) (settle : t.settle = s.settle) : NothingSettles t :=
  ⟨service ▸ h.service, capture ▸ h.attempts, settle ▸ h.settle⟩

theorem nothingSettles_toCapture {s : State} (h : NothingSettles s) (n : Head) (x : Handed) : NothingSettles (s.toCapture n x) := by
  have bars : s.eligible x = none := not_eligible (.inr (.inl h.service))
  have nobody : s.attemptWaits n = false := by rw [State.attemptWaits, h.attempts]; rfl
  have cleared : (s.clearSettle n).settle = s.settle := by
    rw [State.clearSettle, State.setSettle, h.settle]
    cases n <;> rfl
  have run : s.toCapture n x = (s.clearSettle n).reportSample n x := by
    rw [State.toCapture, nobody, State.settleWork, bars]
    rfl
  rw [run]
  exact nothingSettles_of_eq h (by simp) (by simp) ((by simp : _ = (s.clearSettle n).settle).trans cleared)

theorem nothingSettles_foldl {α : Type} {f : State → α → State} (keeps : ∀ s a, NothingSettles s → NothingSettles (f s a))
    (l : List α) {s : State} (h : NothingSettles s) : NothingSettles (l.foldl f s) := by
  induction l generalizing s with
  | nil => exact h
  | cons a l ih => exact ih (keeps s a h)

theorem nothingSettles_endAttempt (s : State) (a : Attempt) (h : NothingSettles s) : NothingSettles (s.endAttempt a) := by
  have reported : NothingSettles (s.reportSample a.head a.handed) := nothingSettles_of_eq h (by simp) (by simp) (by simp)
  exact nothingSettles_foldl (fun t x ht => nothingSettles_toCapture ht a.head x) _
    (nothingSettles_of_eq (t := (s.reportSample a.head a.handed).setBehind a.head []) reported rfl rfl rfl)

theorem nothingSettles_finishedLate (s : State) (n : Head) (h : NothingSettles s) : NothingSettles (Safety.finishedLate s n) := by
  rw [← finishLate_eq]
  cases waiting : s.waiting.get n with
  | none =>
    rw [State.finishLate, waiting]
    exact h
  | some w =>
    rw [finishLate_of_waiting waiting]
    exact nothingSettles_toCapture (nothingSettles_of_eq (t := { s with waiting := s.waiting.set n none }) h rfl rfl rfl) n _

/-- Every attempt that waits dropped. -/
theorem dropAttempts_all (s : State) : s.dropAttempts (fun _ => true) =
    s.capture.waiting.foldl State.endAttempt { s with capture := { s.capture with waiting := [] } } := by
  simp [State.dropAttempts]

/-! ### Event slots of the heads -/

theorem reportSample_headSlots (s : State) (n : Head) (h : Handed) :
    (s.reportSample n h).report.headSlots = s.report.headSlots := by
  rw [reportSample_eq]
  dsimp only
  split_ifs
  · rw [State.enqueue_eq]
    exact risen_headSlots _
  · rfl
  · rfl

theorem toCapture_headSlots (s : State) (n : Head) (h : Handed) : (s.toCapture n h).report.headSlots = s.report.headSlots := by
  unfold State.toCapture
  split
  · rfl
  unfold State.settleWork
  split
  · exact reportSample_headSlots _ n h
  · dsimp only
    split
    · rfl
    · exact reportSample_headSlots _ n h

theorem endAttempt_headSlots (s : State) (a : Attempt) : (s.endAttempt a).report.headSlots = s.report.headSlots :=
  (foldl_keeps (fun b : State => b.report.headSlots) _ (fun b x => toCapture_headSlots b a.head x) _ _).trans
    (reportSample_headSlots s a.head a.handed)

theorem finishedLate_headSlots (s : State) (n : Head) : (Safety.finishedLate s n).report.headSlots = s.report.headSlots := by
  rw [← finishLate_eq]
  cases waiting : s.waiting.get n with
  | none => rw [State.finishLate, waiting]
  | some w =>
    rw [finishLate_of_waiting waiting]
    exact toCapture_headSlots { s with waiting := s.waiting.set n none } n _

/-! ### Parking -/

/-- A context parked, unless it is DISABLED (R53). -/
def parkedContext (c : Context) : Context :=
  if c.state = .disabled then c else { c with state := .parked, timer := 0, silence := 0, attempts := 0, search := none }

/-- The event slot of a head once it has been parked. -/
def parkedSlot (s : State) (n : Head) : Option HeldEvent :=
  if (s.ctx.get n).state = .disabled then s.report.headSlots.get n
  else some ⟨.state (s.ctx.get n).state .parked .park, (s.report.headSlots.get n).isSome⟩

/-- The angles of a head's PARK frame (R54). -/
def parkAngles (s : State) (n : Head) : Int × Int :=
  (((s.ctx.get n).latest.map LatestSample.az).getD 0, ((s.ctx.get n).latest.map LatestSample.el).getD 0)

/-- A head's port once the head has been parked: with a PARK frame, unless the head is DISABLED (R54; log 9). -/
def PortParked (s : State) (n : Head) (p : HeadPort) : Prop :=
  ((s.ctx.get n).state = .disabled → p = s.ports.get n) ∧
  ((s.ctx.get n).state ≠ .disabled → ∃ i, (∀ e, (s.headTime.get n).history.getLast? = some e → i = e.index) ∧
    p = Safety.withSteer n (s.ports.get n) (Safety.aim i 1 4 (parkAngles s n).1 (parkAngles s n).2))

/-- From s to t the heads listed have been parked. -/
structure HeadsParked (done : List Head) (s t : State) : Prop where
  parked : ∀ n ∈ done, t.ctx.get n = parkedContext (s.ctx.get n) ∧ t.report.headSlots.get n = parkedSlot s n ∧
    PortParked s n (t.ports.get n)
  others : ∀ n ∉ done, t.ctx.get n = s.ctx.get n ∧ t.report.headSlots.get n = s.report.headSlots.get n ∧
    t.ports.get n = s.ports.get n
  report : { t.report with headSlots := s.report.headSlots } = s.report
  rest : { t with ctx := s.ctx, report := s.report, ports := s.ports, freeCount := s.freeCount } = s

theorem parkAngles_eq (s : State) (n : Head) : (s.ctx.get n).parkAngles = parkAngles s n := by
  unfold Context.parkAngles parkAngles
  cases (s.ctx.get n).latest <;> rfl

theorem headsParked_one (s : State) (n : Head) : HeadsParked [n] s (s.parkHead n) := by
  by_cases off : (s.ctx.get n).state = .disabled
  · have kept : s.parkHead n = s := if_pos off
    rw [kept]
    refine ⟨fun m mem => ?_, fun _ _ => ⟨rfl, rfl, rfl⟩, rfl, rfl⟩
    rw [List.mem_singleton.1 mem]
    exact ⟨(if_pos off).symm, (if_pos off).symm, fun _ => rfl, fun on => absurd off on⟩
  · have parks : s.parkHead n = (s.changeState n (s.ctx.get n).park .parked .park).steer n .point .park
        (parkAngles s n).1 (parkAngles s n).2 := by
      rw [← parkAngles_eq]
      exact if_neg off
    rw [parks, changeState_eq, steer_eq]
    refine ⟨fun m mem => ?_, fun m out => ?_, rfl, rfl⟩
    · rw [List.mem_singleton.1 mem]
      refine ⟨(PerHead.get_set_self _ _ _).trans (if_neg off).symm, (PerHead.get_set_self _ _ _).trans (if_neg off).symm,
        fun is => absurd is off, fun _ => ⟨s.steerIndex n, fun e newest => ?_, PerHead.get_set_self _ _ _⟩⟩
      rw [State.steerIndex, show latestIndex (s.headTime.get n) = some e.index by rw [latestIndex, newest]; rfl]
    · have other : m ≠ n := fun is => out (List.mem_singleton.2 is)
      exact ⟨PerHead.get_set_ne _ _ other, PerHead.get_set_ne _ _ other, PerHead.get_set_ne _ _ other⟩

theorem headsParked_foldl {l : List Head} (nodup : l.Nodup) (s : State) : HeadsParked l s (l.foldl State.parkHead s) := by
  induction l generalizing s with
  | nil => exact ⟨nofun, fun _ _ => ⟨rfl, rfl, rfl⟩, rfl, rfl⟩
  | cons n l ih =>
    obtain ⟨fresh, nodup⟩ := List.nodup_cons.1 nodup
    have first := headsParked_one s n
    have further := ih nodup (s.parkHead n)
    have headTime : (s.parkHead n).headTime = s.headTime := by simp
    refine ⟨fun m mem => ?_, fun m out => ?_, ?_, ?_⟩
    · rcases List.mem_cons.1 mem with rfl | later
      · obtain ⟨c, e, p⟩ := further.others m fresh
        obtain ⟨c', e', p'⟩ := first.parked m (List.mem_singleton.2 rfl)
        exact ⟨c.trans c', e.trans e', p ▸ p'⟩
      · obtain ⟨c, e, p⟩ := first.others m fun is => fresh (List.mem_singleton.1 is ▸ later)
        have parked := further.parked m later
        simp only [parkedSlot, PortParked, parkAngles, c, e, p, headTime] at parked
        exact parked
    · obtain ⟨notHere, notLater⟩ := not_or.1 fun or => out (List.mem_cons.2 or)
      obtain ⟨c, e, p⟩ := first.others m fun is => notHere (List.mem_singleton.1 is)
      obtain ⟨c', e', p'⟩ := further.others m notLater
      exact ⟨c'.trans c, e'.trans e, p'.trans p⟩
    · exact (congrArg (fun r : Report => { r with headSlots := s.report.headSlots }) further.report).trans first.report
    · exact (congrArg (fun x : State => { x with
        ctx := s.ctx, report := s.report, ports := s.ports, freeCount := s.freeCount }) further.rest).trans first.rest

/-- All heads parked, every settle queue cleared and no attempt left waiting, before the dropped attempts' samples go on. -/
def parkedState (s : State) (ports : PerHead HeadPort) (k : ℕ) : State := { s with
  service := .quiescing
  ctx := s.ctx.map parkedContext
  report := { s.report with headSlots := ⟨parkedSlot s .h0, parkedSlot s .h1, parkedSlot s .h2, parkedSlot s .h3⟩ }
  ports := ports, settle := .all ⟨[], none, none⟩, capture := { s.capture with waiting := [] }, freeCount := k }

/-- The entry to QUIESCING in its parts (R186). -/
theorem enterQuiescing_eq (s : State) : ∃ (ports : PerHead HeadPort) (order : List Head) (k : ℕ),
    (∀ n, PortParked s n (ports.get n)) ∧ order.Nodup ∧
    (∀ n, n ∈ order ↔ ∃ w, s.waiting.get n = some w ∧ w.pendingStart = true) ∧
    s.enterQuiescing = (order.foldl Safety.finishedLate
      (s.capture.waiting.foldl State.endAttempt (parkedState s ports k))).setQuiesce true := by
  obtain ⟨t, is, parks⟩ : ∃ t, allHeads.foldl State.parkHead (s.setService .quiescing) = t ∧
      HeadsParked allHeads (s.setService .quiescing) t := ⟨_, rfl, headsParked_foldl (by decide) _⟩
  have all (n : Head) : n ∈ allHeads := by cases n <;> decide
  have ctx : t.ctx = s.ctx.map parkedContext :=
    PerHead.ext_get fun n => (parks.parked n (all n)).1.trans (PerHead.get_map _ _ _).symm
  have slots : t.report.headSlots = ⟨parkedSlot s .h0, parkedSlot s .h1, parkedSlot s .h2, parkedSlot s .h3⟩ :=
    PerHead.ext_get fun n => (parks.parked n (all n)).2.1.trans (by cases n <;> rfl)
  have report : t.report = { s.report with
      headSlots := ⟨parkedSlot s .h0, parkedSlot s .h1, parkedSlot s .h2, parkedSlot s .h3⟩ } := by
    rw [← slots]
    exact congrArg (fun r : Report => { r with headSlots := t.report.headSlots }) parks.report
  have state : { t.clearAllSettle with capture := { t.capture with waiting := [] } } = parkedState s t.ports t.freeCount := by
    have rest := congrArg (fun x : State => { x with
      ctx := t.ctx, report := t.report, ports := t.ports, freeCount := t.freeCount
      settle := .all ⟨[], none, none⟩, capture := { x.capture with waiting := [] } }) parks.rest
    refine Eq.trans rest ?_
    rw [ctx, report]
    rfl
  have capture : t.capture = s.capture := (congrArg State.capture parks.rest :)
  have waiting : t.waiting = s.waiting := (congrArg State.waiting parks.rest :)
  have dropped : t.clearAllSettle.dropAttempts (fun _ => true) =
      s.capture.waiting.foldl State.endAttempt (parkedState s t.ports t.freeCount) := by
    rw [← state, ← capture]
    exact dropAttempts_all _
  have handed := samplesHanded_foldl samplesHanded_endAttempt s.capture.waiting (parkedState s t.ports t.freeCount)
  obtain ⟨order, k, nodup, waits, late⟩ := finishAllLate_eq
    (s.capture.waiting.foldl State.endAttempt (parkedState s t.ports t.freeCount)) WaitingSample.pendingStart
  refine ⟨t.ports, order, k, fun n => (parks.parked n (all n)).2.2, nodup, fun n => ?_, ?_⟩
  · rw [waits, show State.waiting _ = s.waiting from (congrArg State.waiting handed.rest :), Option.any_eq_true]
  · rw [State.enterQuiescing, is, dropped, late]
    exact congrArg (fun b => (order.foldl Safety.finishedLate b).setQuiesce true)
      (endAttempts_withDrawn k s.capture.waiting (parkedState s t.ports t.freeCount)).symm

/-- The entry to QUIESCING on the state with the request taken. -/
theorem enterQuiescing_withRequests (s : State) (rest : List Request) :
    ∃ (ports : PerHead HeadPort) (order : List Head) (k : ℕ), (∀ n, PortParked s n (ports.get n)) ∧ order.Nodup ∧
    (∀ n, n ∈ order ↔ ∃ w, s.waiting.get n = some w ∧ w.pendingStart = true) ∧
    (withRequests rest s).enterQuiescing = (withRequests rest (order.foldl Safety.finishedLate
      (s.capture.waiting.foldl State.endAttempt (parkedState s ports k)))).setQuiesce true := by
  obtain ⟨ports, order, k, parked, nodup, waits, run⟩ := enterQuiescing_eq (withRequests rest s)
  refine ⟨ports, order, k, parked, nodup, waits, run.trans (congrArg (State.setQuiesce · true) ?_)⟩
  have taken : parkedState (withRequests rest s) ports k = withRequests rest (parkedState s ports k) := rfl
  rw [taken, ← finishedLates_withRequests, ← endAttempts_withRequests]
  rfl

/-! ### CLEAR_FAULT and SET_SERVICE -/

section
variable {s : State} {r : Request} {rest : List Request}

theorem clearFault_cases (takes : Safety.Takes s 22 r rest) :
    let p := r.payload
    let cleared (s' : State) : Prop := Safety.Answers .clearFault s rest (Safety.answer r.tag 22 .ok []) s'
    (3 < natAt 1 1 p → natAt 1 1 p ≠ 255 → Safety.Answers .clearFault s rest (Safety.answer r.tag 22 .badValue []) s) ∧
    (natAt 1 1 p = 255 → cleared { s with partFault := ⟨none, []⟩ }) ∧
    (∀ n, headNumber n = natAt 1 1 p → cleared { s with headFaults := s.headFaults.set n ⟨none, []⟩ }) := by
  intro p cleared
  have run := exec_taken (c := .clearFault) (fun _ => rfl) takes rfl
  have held := takes.1.2.1
  refine ⟨fun large notPart => ?_, fun part => ?_, fun n head => ?_⟩
  · have noSubject : paramSubject r.payload = none := by
      rw [paramSubject, if_neg notPart, headOf_of_large large]
      rfl
    refine answers_of_given held (run.trans (congrArg _ ?_))
    rw [noSubject]
  · have subject : paramSubject r.payload = some none := if_pos part
    refine answers_of_given held (run.trans (congrArg _ ?_))
    rw [subject]
    rfl
  · have notPart : natAt 1 1 r.payload ≠ 255 := by
      rw [show natAt 1 1 r.payload = headNumber n from head.symm]
      cases n <;> decide
    have subject : paramSubject r.payload = some (some n) := by
      rw [paramSubject, if_neg notPart, headOf_headNumber head]
      rfl
    refine answers_of_given held (run.trans (congrArg _ ?_))
    rw [subject]
    rfl

/-- The work of SET_SERVICE ACTIVE by the service state. -/
theorem setActive_eq (takes : Safety.Takes s 23 r rest) (target : natAt 1 1 r.payload = 0) :
    (s.service ≠ .start → s.service ≠ .active → s.service ≠ .hold →
      Safety.Answers .setServiceActive s rest (Safety.answer r.tag 23 .wrongState []) s) ∧
    (s.service = .active ∨ s.service = .hold →
      Safety.Answers .setServiceActive s rest (Safety.answer r.tag 23 .ok []) { s with service := .active }) ∧
    (s.service = .start → exec .setServiceActive s = .next { Safety.kept s r.tag rest .setActive with
      service := .init
      mem := { s.mem with state := .initializing, initPhase := some (.settle (s.time.timebase + 20000)) } }) := by
  have run := (setService_row (c := .setServiceActive) (t := 0) (fun _ => rfl) (by decide) takes).2.2 target
  have held := takes.1.2.1
  rw [show (withRequests rest s).service = s.service from rfl] at run
  refine ⟨fun notStart notActive notHold => ?_, fun awake => ?_, fun start => ?_⟩
  · refine answers_of_given held (run.trans (congrArg _ ?_))
    cases service : s.service with
    | start => exact absurd service notStart
    | active => exact absurd service notActive
    | hold => exact absurd service notHold
    | _ => rfl
  · refine answers_of_given held (run.trans (congrArg _ ?_))
    rcases awake with service | service
    all_goals
      rw [service]
      rfl
  · rw [run, start]
    rfl

/-- The entry to HOLD, before the dropped attempts' samples go on (R185). -/
def heldState (s : State) : State := { s with
  service := .hold, settle := .all ⟨[], none, none⟩, capture := { s.capture with waiting := [] } }

theorem setHold_eq (takes : Safety.Takes s 23 r rest) (target : natAt 1 1 r.payload = 1) :
    (s.service ≠ .active → s.service ≠ .hold →
      Safety.Answers .setServiceHold s rest (Safety.answer r.tag 23 .wrongState []) s) ∧
    (s.service = .hold → Safety.Answers .setServiceHold s rest (Safety.answer r.tag 23 .ok []) s) ∧
    (s.service = .active → Safety.Answers .setServiceHold s rest (Safety.answer r.tag 23 .ok [])
      (s.capture.waiting.foldl State.endAttempt (heldState s))) := by
  have run := (setService_row (c := .setServiceHold) (t := 1) (fun _ => rfl) (by decide) takes).2.2 target
  have held := takes.1.2.1
  rw [show (withRequests rest s).service = s.service from rfl] at run
  refine ⟨fun notActive notHold => ?_, fun hold => ?_, fun active => ?_⟩
  · refine answers_of_given held (run.trans (congrArg _ ?_))
    cases service : s.service with
    | active => exact absurd service notActive
    | hold => exact absurd service notHold
    | _ => rfl
  · refine answers_of_given held (run.trans (congrArg _ ?_))
    rw [hold]
  · have handed := samplesHanded_foldl samplesHanded_endAttempt s.capture.waiting (heldState s)
    have entered : (withRequests rest s).enterHold = withRequests rest (s.capture.waiting.foldl State.endAttempt (heldState s)) := by
      rw [State.enterHold, dropAttempts_all, ← endAttempts_withRequests]
      rfl
    refine answers_of_given ((congrArg (·.mgmt.held) handed.rest :).trans held) (run.trans (congrArg _ ?_))
    rw [active, ← entered]

theorem setHold_active (takes : Safety.Takes s 23 r rest) (target : natAt 1 1 r.payload = 1) (active : s.service = .active) :
    ∃ t, exec .setServiceHold s = .next t ∧ t.service = .hold ∧ t.capture.waiting = [] ∧ t.uplink.requests = rest ∧
      t.settle = .all ⟨[], none, none⟩ ∧ Safety.Answered t (Safety.answer r.tag 23 .ok []) ∧
      { t.capture with waiting := s.capture.waiting } = s.capture ∧
      { t with
        service := s.service, settle := s.settle, behind := s.behind, capture := s.capture, report := s.report
        uplink := s.uplink, mgmt := s.mgmt } = s := by
  have answers := (setHold_eq takes target).2.2 active
  have handed := samplesHanded_foldl samplesHanded_endAttempt s.capture.waiting (heldState s)
  have quiet : NothingSettles (s.capture.waiting.foldl State.endAttempt (heldState s)) :=
    nothingSettles_foldl nothingSettles_endAttempt _ ⟨by simp [heldState], rfl, rfl⟩
  generalize s.capture.waiting.foldl State.endAttempt (heldState s) = w at answers handed quiet
  have given := given_rest (withRequests rest w) (Safety.answer r.tag 23 .ok [])
  refine ⟨_, answers, (congrArg State.service given :).trans (congrArg State.service handed.rest :),
    (congrArg (·.capture.waiting) given :).trans quiet.attempts, given_requests _ _,
    (congrArg State.settle given :).trans quiet.settle, given_answered _ _, ?_, ?_⟩
  · refine (congrArg (fun x : State => { x.capture with waiting := s.capture.waiting }) given :).trans ?_
    exact congrArg (fun c : Capture => { c with waiting := s.capture.waiting }) handed.capture
  · let keep (x : State) : State := { x with
      service := s.service, settle := s.settle, behind := s.behind, capture := s.capture, report := s.report
      uplink := s.uplink, mgmt := s.mgmt }
    exact (congrArg keep given :).trans (congrArg keep handed.rest :)

/-- The entry to QUIESCING as the row leaves it. -/
theorem setStandby_eq (takes : Safety.Takes s 23 r rest) (target : natAt 1 1 r.payload = 2) :
    (s.service ≠ .active → s.service ≠ .hold →
      Safety.Answers .setServiceStandby s rest (Safety.answer r.tag 23 .wrongState []) s) ∧
    (s.service = .active ∨ s.service = .hold → ∃ (ports : PerHead HeadPort) (order : List Head) (k : ℕ),
      (∀ n, PortParked s n (ports.get n)) ∧ order.Nodup ∧
      (∀ n, n ∈ order ↔ ∃ w, s.waiting.get n = some w ∧ w.pendingStart = true) ∧
      exec .setServiceStandby s = .next (((withRequests rest (order.foldl Safety.finishedLate
        (s.capture.waiting.foldl State.endAttempt (parkedState s ports k)))).setQuiesce true).keepInHand r.tag .setStandby)) := by
  have run := (setService_row (c := .setServiceStandby) (t := 2) (fun _ => rfl) (by decide) takes).2.2 target
  rw [show (withRequests rest s).service = s.service from rfl] at run
  refine ⟨fun notActive notHold => ?_, fun awake => ?_⟩
  · refine answers_of_given takes.1.2.1 (run.trans (congrArg _ ?_))
    cases service : s.service with
    | active => exact absurd service notActive
    | hold => exact absurd service notHold
    | _ => rfl
  · obtain ⟨ports, order, k, parked, nodup, waits, entered⟩ := enterQuiescing_withRequests s rest
    refine ⟨ports, order, k, parked, nodup, waits, run.trans (congrArg _ ?_)⟩
    rcases awake with service | service
    all_goals rw [service, ← entered]

theorem setWake_eq (takes : Safety.Takes s 23 r rest) (target : natAt 1 1 r.payload = 3) :
    (s.service ≠ .standby → Safety.Answers .setServiceWake s rest (Safety.answer r.tag 23 .wrongState []) s) ∧
    (s.service = .standby → exec .setServiceWake s = .next { Safety.kept s r.tag rest .setWake with
      service := .waking, mem := { s.mem with state := .exiting, exitBegan := some s.time.timebase } }) := by
  have run := (setService_row (c := .setServiceWake) (t := 3) (fun _ => rfl) (by decide) takes).2.2 target
  rw [show (withRequests rest s).service = s.service from rfl] at run
  refine ⟨fun notStandby => ?_, fun standby => ?_⟩
  · refine answers_of_given takes.1.2.1 (run.trans (congrArg _ ?_))
    cases service : s.service with
    | standby => exact absurd service notStandby
    | _ => rfl
  · rw [run, standby]
    rfl

end

/-- What the entry to QUIESCING leaves, part by part. -/
structure Quiescing (s : State) (ports : PerHead HeadPort) (order : List Head) (d : State) : Prop where
  quiet : NothingSettles d
  service : d.service = .quiescing
  ctx : d.ctx = s.ctx.map parkedContext
  ports : d.ports = ports
  slots : ∀ n, d.report.headSlots.get n = parkedSlot s n
  finished : ∀ n ∈ order, d.waiting.get n = none
  waits : ∀ n ∉ order, d.waiting.get n = s.waiting.get n
  capture : { d.capture with waiting := s.capture.waiting } = s.capture
  rest : { d with
    service := s.service, ctx := s.ctx, settle := s.settle, behind := s.behind, waiting := s.waiting
    capture := s.capture, report := s.report, ports := s.ports, uplink := s.uplink, freeCount := s.freeCount } = s

theorem quiescing_of_entered (s : State) (ports : PerHead HeadPort) (order : List Head) (k : ℕ) :
    Quiescing s ports order (order.foldl Safety.finishedLate
      (s.capture.waiting.foldl State.endAttempt (parkedState s ports k))) := by
  have handed := samplesHanded_foldl samplesHanded_endAttempt s.capture.waiting (parkedState s ports k)
  have quiet : NothingSettles (s.capture.waiting.foldl State.endAttempt (parkedState s ports k)) :=
    nothingSettles_foldl nothingSettles_endAttempt _ ⟨by simp [parkedState], rfl, rfl⟩
  have slots : (s.capture.waiting.foldl State.endAttempt (parkedState s ports k)).report.headSlots =
      (parkedState s ports k).report.headSlots := foldl_keeps (·.report.headSlots) _ endAttempt_headSlots _ _
  generalize s.capture.waiting.foldl State.endAttempt (parkedState s ports k) = d at handed quiet slots
  have late := lateFinished_foldl order d
  have waiting : d.waiting = s.waiting := (congrArg State.waiting handed.rest :)
  have capture : (order.foldl Safety.finishedLate d).capture = d.capture := (congrArg State.capture late.rest :)
  exact {
    quiet := nothingSettles_foldl nothingSettles_finishedLate order quiet
    service := (congrArg State.service late.rest :).trans (congrArg State.service handed.rest :)
    ctx := (congrArg State.ctx late.rest :).trans (congrArg State.ctx handed.rest :)
    ports := (congrArg State.ports late.rest :).trans (congrArg State.ports handed.rest :)
    slots := fun n => by
      rw [foldl_keeps (·.report.headSlots) _ finishedLate_headSlots, slots]
      cases n <;> rfl
    finished := late.waiting
    waits := fun n out => (late.others n out).1.trans (congrArg (PerHead.get · n) waiting)
    capture := by
      rw [capture]
      exact congrArg (fun c : Capture => { c with waiting := s.capture.waiting }) handed.capture
    rest := by
      let keep (x : State) : State := { x with
        service := s.service, ctx := s.ctx, settle := s.settle, behind := s.behind, waiting := s.waiting
        capture := s.capture, report := s.report, ports := s.ports, uplink := s.uplink, freeCount := s.freeCount }
      exact (congrArg keep late.rest :).trans (congrArg keep handed.rest :) }

/-- SET_SERVICE STANDBY kept in hand, with the memory and management units otherwise as before. -/
theorem standbyInHand_eq {s d : State} {rest : List Request} {tag : Byte} (mem : d.mem = s.mem) (mgmt : d.mgmt = s.mgmt) :
    ((withRequests rest d).setQuiesce true).keepInHand tag .setStandby = { d with
      uplink := { d.uplink with requests := rest }, mem := { s.mem with quiesce := true }
      mgmt := { s.mgmt with inHand := some ⟨tag, .setStandby⟩ } } := by
  rw [← mem, ← mgmt]
  rfl

/-- Settles O51: the rows, and each target's work by the service state. -/
theorem serviceSet : Obligations.ServiceSet := by
  refine fun s r rest => ⟨clearFault_cases, fun takes => ?_⟩
  intro target answered rows
  have active := setService_row (c := .setServiceActive) (t := 0) (fun _ => rfl) (by decide) takes
  have hold := setService_row (c := .setServiceHold) (t := 1) (fun _ => rfl) (by decide) takes
  have standby := setService_row (c := .setServiceStandby) (t := 2) (fun _ => rfl) (by decide) takes
  have wake := setService_row (c := .setServiceWake) (t := 3) (fun _ => rfl) (by decide) takes
  refine ⟨fun c t row => ?_, setActive_eq takes, fun is => ?_, fun is => ?_, setWake_eq takes⟩
  · simp only [rows, List.mem_cons, Prod.mk.injEq, List.not_mem_nil, or_false] at row
    rcases row with ⟨rfl, rfl⟩ | ⟨rfl, rfl⟩ | ⟨rfl, rfl⟩ | ⟨rfl, rfl⟩
    · exact ⟨active.1, active.2.1⟩
    · exact ⟨hold.1, hold.2.1⟩
    · exact ⟨standby.1, standby.2.1⟩
    · exact ⟨wake.1, wake.2.1⟩
  · obtain ⟨refused, again, entered⟩ := setHold_eq takes is
    refine ⟨refused, again, fun active none_ => ?_, entered, setHold_active takes is⟩
    have entered := entered active
    have capture : { s.capture with waiting := [] } = s.capture := by rw [← none_]
    rw [none_, List.foldl_nil, heldState, capture] at entered
    exact entered
  · obtain ⟨refused, entered⟩ := setStandby_eq takes is
    refine ⟨refused, fun awake => ?_, fun awake => ?_⟩
    all_goals obtain ⟨ports, order, k, parked, nodup, waits, run⟩ := entered awake
    all_goals have left := quiescing_of_entered s ports order k
    · refine ⟨ports, order, k, fun n => (parked n).1, fun n => (parked n).2, nodup, waits, run.trans (congrArg _ ?_)⟩
      have mem : (order.foldl Safety.finishedLate (s.capture.waiting.foldl State.endAttempt (parkedState s ports k))).mem = s.mem :=
        (congrArg State.mem left.rest :)
      have mgmt : (order.foldl Safety.finishedLate (s.capture.waiting.foldl State.endAttempt (parkedState s ports k))).mgmt =
        s.mgmt := (congrArg State.mgmt left.rest :)
      exact standbyInHand_eq mem mgmt
    · generalize order.foldl Safety.finishedLate (s.capture.waiting.foldl State.endAttempt (parkedState s ports k)) = d at run left
      have mem : d.mem = s.mem := (congrArg State.mem left.rest :)
      have held : d.mgmt.held = none := (congrArg (·.mgmt.held) left.rest :).trans takes.1.2.1
      refine ⟨_, run, left.service, ?_, rfl, ?_, left.quiet.settle, left.quiet.attempts, fun n => ⟨?_, fun on => ?_, ?_⟩,
        fun n off => ⟨?_, ?_⟩, fun n e on newest => ?_, left.capture, ?_⟩
      · exact congrArg (fun h => (⟨some ⟨r.tag, .setStandby⟩, h⟩ : Management)) held
      · exact congrArg (fun m : MemCtl => { m with quiesce := true }) mem
      · exact (congrArg (PerHead.get · n) left.ctx).trans (PerHead.get_map _ _ _)
      · exact (left.slots n).trans (if_neg on)
      · by_cases mem : n ∈ order
        · obtain ⟨w, waiting, pending⟩ := (waits n).1 mem
          rw [waiting]
          exact (left.finished n mem).trans (by rw [Option.filter_some_neg (by simp [pending])])
        · refine (left.waits n mem).trans ?_
          cases waiting : s.waiting.get n with
          | none => rfl
          | some w =>
            have not : w.pendingStart = false := Bool.not_eq_true _ ▸ fun is => mem ((waits n).2 ⟨w, waiting, is⟩)
            rw [Option.filter_some_pos (by simp [not])]
      · exact (congrArg (PerHead.get · n) left.ports).trans ((parked n).1 off)
      · exact (left.slots n).trans (if_pos off)
      · obtain ⟨i, index, port⟩ := (parked n).2 on
        rw [index e newest] at port
        have angles := parkAngles_eq s n
        refine (congrArg (PerHead.get · n) left.ports).trans (port.trans ?_)
        rw [← angles]
        rfl
      · let keep (x : State) : State := { x with mem := s.mem, mgmt := s.mgmt }
        exact (congrArg keep left.rest :)

end Sys2Proof.Proofs
end

section
/-! PROOFS. RESTART, RESTART_PROPER and HARD_RESET. -/

namespace Sys2Proof.Proofs
open Sys2Proof Sys2Proof.Machine

/-! ### RESTART -/

section
variable {s : State} {r : Request} {rest : List Request}

theorem restart_run (takes : Safety.Takes s 24 r rest) :
    (s.service ≠ .active → s.service ≠ .hold → Safety.Answers .restart s rest (Safety.answer r.tag 24 .wrongState []) s) ∧
    (s.service = .active ∨ s.service = .hold →
      exec .restart s = .next ((withRequests rest s).beginDrain.keepInHand r.tag .restart)) := by
  have run := exec_taken (c := .restart) (fun _ => rfl) takes rfl
  have awake_iff : (decide ((withRequests rest s).service = .active) || decide ((withRequests rest s).service = .hold)) = true ↔
      s.service = .active ∨ s.service = .hold := by
    rw [Bool.or_eq_true, decide_eq_true_eq, decide_eq_true_eq]
    exact Iff.rfl
  refine ⟨fun notActive notHold => ?_, fun awake => ?_⟩
  · exact answers_of_given takes.1.2.1 (run.trans (congrArg _ (if_neg fun is => (awake_iff.1 is).elim notActive notHold)))
  · exact run.trans (congrArg _ (if_pos (awake_iff.2 awake)))

/-- The drain begun on the state with the request taken: pending samples finished late, heads in some order (R188). -/
theorem beginDrain_withRequests (s : State) (rest : List Request) : ∃ (order : List Head) (k : ℕ), order.Nodup ∧
    (∀ n, n ∈ order ↔ ∃ w, s.waiting.get n = some w ∧ w.pendingStart = true) ∧
    (withRequests rest s).beginDrain =
      withRequests rest (order.foldl Safety.finishedLate { s with restartMark := true, freeCount := k }) := by
  obtain ⟨order, k, nodup, waits, late⟩ :=
    finishAllLate_eq { withRequests rest s with restartMark := true } WaitingSample.pendingStart
  refine ⟨order, k, nodup, fun n => (waits n).trans (Option.any_eq_true _ _), late.trans ?_⟩
  exact finishedLates_withRequests rest order { s with restartMark := true, freeCount := k }

/-- RESTART kept in hand, with the management unit otherwise as before. -/
theorem restartInHand_eq {s d : State} {rest : List Request} {tag : Byte} (mgmt : d.mgmt = s.mgmt) :
    (withRequests rest d).keepInHand tag .restart = { d with
      uplink := { d.uplink with requests := rest }, mgmt := { s.mgmt with inHand := some ⟨tag, .restart⟩ } } := by
  rw [← mgmt]
  rfl

/-- What the beginning of the drain leaves. -/
theorem restart_cases (takes : Safety.Takes s 24 r rest) (awake : s.service = .active ∨ s.service = .hold) :
    ((∀ n w, s.waiting.get n = some w → w.pendingStart = false) →
      exec .restart s = .next { Safety.kept s r.tag rest .restart with restartMark := true }) ∧
    (∃ (order : List Head) (k : ℕ), order.Nodup ∧
      (∀ n, n ∈ order ↔ ∃ w, s.waiting.get n = some w ∧ w.pendingStart = true) ∧
      (let done := order.foldl Safety.finishedLate { s with restartMark := true, freeCount := k }
      exec .restart s = .next { done with
        uplink := { done.uplink with requests := rest }
        mgmt := { s.mgmt with inHand := some ⟨r.tag, .restart⟩ } })) ∧
    (∃ t, exec .restart s = .next t ∧ t.restartMark = true ∧ t.mgmt = ⟨some ⟨r.tag, .restart⟩, none⟩ ∧
      t.uplink.requests = rest ∧ (∀ n, t.waiting.get n = (s.waiting.get n).filter fun w => !w.pendingStart) ∧
      { t with
        restartMark := s.restartMark, waiting := s.waiting, settle := s.settle, behind := s.behind, report := s.report
        uplink := s.uplink, mgmt := s.mgmt, freeCount := s.freeCount } = s) := by
  have run := (restart_run takes).2 awake
  obtain ⟨order, k, nodup, waits, drain⟩ := beginDrain_withRequests s rest
  have late := lateFinished_foldl order { s with restartMark := true, freeCount := k }
  refine ⟨fun nobody => ?_, ⟨order, k, nodup, waits, ?_⟩, ?_⟩
  · have none_ : (withRequests rest s).beginDrain = { withRequests rest s with restartMark := true } :=
      finishAllLate_none fun n => (Option.any_eq_false _ _).2 fun w waiting => by
        rw [nobody n w waiting]
    rw [run, none_]
    rfl
  · intro done
    have mgmt : done.mgmt = s.mgmt := (congrArg State.mgmt late.rest :)
    rw [run, drain, restartInHand_eq mgmt]
  · rw [drain] at run
    generalize order.foldl Safety.finishedLate { s with restartMark := true, freeCount := k } = d at run late
    have held : d.mgmt.held = none := (congrArg (·.mgmt.held) late.rest :).trans takes.1.2.1
    refine ⟨_, run, (congrArg State.restartMark late.rest :), congrArg (fun h => (⟨some ⟨r.tag, .restart⟩, h⟩ : Management)) held,
      rfl, fun n => ?_, ?_⟩
    · by_cases mem : n ∈ order
      · obtain ⟨w, waiting, pending⟩ := (waits n).1 mem
        rw [waiting]
        exact (late.waiting n mem).trans (by rw [Option.filter_some_neg (by simp [pending])])
      · refine ((late.others n mem).1).trans ?_
        show s.waiting.get n = _
        cases waiting : s.waiting.get n with
        | none => rfl
        | some w =>
          have not : w.pendingStart = false := Bool.not_eq_true _ ▸ fun is => mem ((waits n).2 ⟨w, waiting, is⟩)
          rw [Option.filter_some_pos (by simp [not])]
    · let keep (x : State) : State := { x with
        restartMark := s.restartMark, waiting := s.waiting, settle := s.settle, behind := s.behind, report := s.report
        uplink := s.uplink, mgmt := s.mgmt, freeCount := s.freeCount }
      exact (congrArg keep late.rest :)

end

/-! ### RESTART_PROPER -/

theorem toList_all_iff {α : Type} (p : PerHead α) (f : α → Bool) : p.toList.all f = true ↔ ∀ n, f (p.get n) = true := by
  simp only [PerHead.toList, List.all_cons, List.all_nil, Bool.and_true, Bool.and_eq_true]
  exact ⟨fun ⟨h0, h1, h2, h3⟩ n => by cases n <;> assumption, fun h => ⟨h .h0, h .h1, h .h2, h .h3⟩⟩

/-- The drain has ended (R188; logs 26, 33). -/
def DrainEnded (s : State) : Prop :=
  s.restartMark = true ∧ s.lookup.walks = [] ∧ (∀ n, s.waiting.get n = none ∧ s.behind.get n = []) ∧
    s.capture.waiting = [] ∧ s.capture.attempt = none ∧ s.capture.writeback = [] ∧ s.spill.writes = [] ∧
    s.spill.drains = [] ∧ s.report.occupancy = 0 ∧ s.mem.running = none

theorem drainEnded_iff (s : State) : s.drained = true ↔ DrainEnded s := by
  simp only [State.drained, State.samplesDone, Bool.and_eq_true, toList_all_iff, List.isEmpty_iff, Option.isNone_iff_eq_none,
    decide_eq_true_eq, DrainEnded, forall_and]
  tauto

/-- With the drain ended, the restart proper has no walk, sample, attempt or spill request to clear. -/
theorem softReset_eq {s : State} (h : DrainEnded s) : s.softReset = { s with
    service := .active, restartMark := false, headFaults := .all ⟨none, []⟩, partFault := ⟨none, []⟩
    ctx := .all Context.reset, settle := .all ⟨[], none, none⟩
    lookup := { s.lookup with records := List.replicate 32 none, victim := 0, rewalk := [] }
    headTime := s.headTime.map fun h => { h with trigger := none }
    mem := { s.mem with quiesce := false }
    report := ⟨[], 0, none, .all none, none,
      s.report.decimation.map fun d => ⟨d.configured, d.configured, 0⟩⟩
    ports := s.ports.map fun p => { p with bad := 0, forward := [], steer := none, steerTag := 0 }
    uplink := { s.uplink with
      bad := 0, forward := [], requests := [], reportTag := 0, servedReport := false
      sending := s.uplink.sending.map fun t => { t with source := .detached } } } := by
  obtain ⟨-, walks, samples, attempts, attempt, -, writes, drains, -, -⟩ := h
  have waiting : PerHead.all none = s.waiting := PerHead.ext_get fun n => (PerHead.get_all _ n).trans (samples n).1.symm
  have behind : PerHead.all [] = s.behind := PerHead.ext_get fun n => (PerHead.get_all _ n).trans (samples n).2.symm
  have capture : { s.capture with attempt := none, waiting := [] } = s.capture := by rw [← attempt, ← attempts]
  have spill : { s.spill with writes := [], drains := [] } = s.spill := by rw [← writes, ← drains]
  have lookup : s.lookup.restart = { s.lookup with records := List.replicate 32 none, victim := 0, rewalk := [] } := by
    rw [Lookup.restart, ← walks]
  rw [State.softReset, waiting, behind, capture, spill, lookup]
  rfl

theorem restartProper_cases {s : State} {tag : Byte} (mgmt : s.mgmt = ⟨some ⟨tag, .restart⟩, none⟩) :
    (¬DrainEnded s → exec .restartProper s = .next s) ∧
    (DrainEnded s → exec .restartProper s = .next (Safety.given s.softReset (Safety.answer tag 24 .ok []))) := by
  have run : exec .restartProper s = .next (if s.drained then s.softReset.answerInHand .ok [] else s) := by
    show execRestartProper s = _
    rw [execRestartProper, mgmt]
    rfl
  have inHand : s.softReset.mgmt.inHand = some ⟨tag, .restart⟩ := congrArg Management.inHand mgmt
  have held : s.softReset.mgmt.held = none := congrArg Management.held mgmt
  refine ⟨fun not => ?_, fun ended => ?_⟩
  · rw [run, if_neg (mt (drainEnded_iff s).1 not)]
  · rw [run, if_pos ((drainEnded_iff s).2 ended), answerInHand_given inHand held]
    rfl

/-- Settles O52: the drain begun, the restart once it has ended, and the values of a hard reset. -/
theorem restartsAndReset : Obligations.RestartsAndReset := by
  refine ⟨fun s r rest takes => ⟨(restart_run takes).1, restart_cases takes⟩, fun s tag mgmt => ?_, fun _ => rfl, fun z is => ?_⟩
  · intro drained
    obtain ⟨waits, restarts⟩ := restartProper_cases mgmt
    exact ⟨waits, fun ended => by rw [restarts ended, softReset_eq ended]⟩
  · subst is
    refine ⟨⟨rfl, rfl, rfl, rfl⟩, ⟨rfl, rfl, rfl, rfl, rfl, rfl, rfl, rfl, rfl⟩,
      ⟨rfl, rfl, rfl, rfl, rfl, rfl, rfl, rfl, rfl, rfl, rfl, rfl⟩, ⟨rfl, rfl, rfl, rfl, rfl, rfl, rfl, rfl, rfl⟩,
      ⟨rfl, rfl, rfl, rfl⟩, ⟨rfl, rfl, rfl, rfl, rfl⟩, fun n => ?_⟩
    cases n <;> exact ⟨rfl, rfl, rfl, rfl, rfl, rfl, rfl, rfl, rfl, rfl, rfl, rfl, rfl⟩

end Sys2Proof.Proofs
end

section
/-! PROOFS. The memory's course, and the grant. -/

namespace Sys2Proof.Proofs
open Sys2Proof Sys2Proof.Machine

/-! ### Initialization and refresh -/

theorem initSettleEnd_cases (s : State) :
    let settled := s.mem.state = .initializing ∧ ∃ t, s.mem.initPhase = some (.settle t) ∧ t ≤ s.time.timebase
    (settled → exec .initSettleEnd s = .next { s with mem := { s.mem with
      openRows := [none, none, none, none], initPhase := some (.refreshing 8 s.time.timebase) } }) ∧
    (¬settled → exec .initSettleEnd s = .next s) := by
  intro settled
  have over_iff : s.settleOver = true ↔ settled := by
    rw [State.settleOver, Bool.and_eq_true, decide_eq_true_eq]
    refine and_congr_right fun _ => ?_
    cases s.mem.initPhase with
    | none => simp
    | some phase => cases phase <;> simp
  exact ⟨fun is => congrArg Host.Outcome.next (if_pos (over_iff.2 is)),
    fun not => congrArg Host.Outcome.next (if_neg (mt over_iff.1 not))⟩

theorem initRefreshDone_refreshing {s : State} {left began : ℕ} (state : s.mem.state = .initializing)
    (phase : s.mem.initPhase = some (.refreshing left began)) : exec .initRefreshDone s = .next
      (if left ≤ 1 then (s.becomeActive 0).answerInHand .ok []
      else s.setInitPhase (some (.refreshing (left - 1) s.time.timebase))) := by
  show execInitRefreshDone s = _
  rw [execInitRefreshDone, state, phase]

theorem initRefreshDone_other {s : State} (state : s.mem.state ≠ .initializing) : exec .initRefreshDone s = .next s := by
  show execInitRefreshDone s = _
  unfold execInitRefreshDone
  split
  case h_1 is _ => exact absurd is state
  case h_2 => rfl

theorem refreshExpiry_cases (s : State) :
    let due (t : Nat) := s.mem.state = .ready ∧ s.mem.nextRefresh = some t ∧ t ≤ s.time.timebase
    (∀ t, due t → exec .refreshExpiry s = .next { s with mem := { s.mem with
      owed := min 8 (s.mem.owed + 1), nextRefresh := some (t + s.mem.refreshInterval * 100) } }) ∧
    ((∀ t, ¬due t) → exec .refreshExpiry s = .next s) := by
  intro due
  have due_iff : s.refreshDue = true ↔ ∃ t, due t := by
    simp [State.refreshDue, due, Option.any_eq_true]
  refine ⟨fun t is => ?_, fun never => ?_⟩
  · refine (congrArg Host.Outcome.next (if_pos (due_iff.2 ⟨t, is⟩)) : exec .refreshExpiry s = _).trans ?_
    rw [MemCtl.refreshExpiry, is.2.1]
    rfl
  · exact congrArg Host.Outcome.next (if_neg fun is => (due_iff.1 is).elim never)

theorem refreshDone_cases (s : State) :
    (∀ g d, s.mem.running = some ⟨.refresh, g, d⟩ → exec .refreshDone s =
      .next { s with mem := { s.mem with running := none, openRows := [none, none, none, none] } }) ∧
    ((∀ g d, s.mem.running ≠ some ⟨.refresh, g, d⟩) → exec .refreshDone s = .next s) := by
  refine ⟨fun g d running => ?_, fun other => ?_⟩
  · show execRefreshDone s = _
    rw [execRefreshDone, State.access, running]
    rfl
  · show execRefreshDone s = _
    unfold execRefreshDone
    split
    case h_1 is =>
      obtain ⟨⟨_, g, d⟩, running, rfl⟩ := Option.map_eq_some_iff.1 is
      exact absurd running (other g d)
    case h_2 => rfl

/-! ### Self-refresh -/

/-- Every wait of R140 is over. -/
theorem quiesced_iff (s : State) : s.quiesced = true ↔
    s.mem.quiesce = true ∧ s.mem.state = .ready ∧ s.capture.attempt = none ∧ s.capture.waiting = [] ∧
      s.lookup.walks = [] ∧ s.capture.writeback = [] ∧ s.spill.writes = [] ∧ s.spill.drains = [] ∧ s.mem.mgmt = none ∧
      s.mem.owed = 0 ∧ s.mem.running = none := by
  simp only [State.quiesced, Bool.and_eq_true, decide_eq_true_eq, Option.isNone_iff_eq_none, List.isEmpty_iff, and_assoc]

/-- A context that leaves PARKED at the wake (R53). -/
def wokenContext (c : Context) : Context := if c.state = .parked then { c with state := .lost } else c

/-- The event slot of a head after the wake. -/
def wokenSlot (s : State) (n : Head) : Option HeldEvent :=
  if (s.ctx.get n).state = .parked then some ⟨.state .parked .lost .wake, (s.report.headSlots.get n).isSome⟩
  else s.report.headSlots.get n

theorem wakeHead_eq (s : State) (n : Head) : s.wakeHead n = { s with
    ctx := s.ctx.set n (wokenContext (s.ctx.get n))
    report := { s.report with headSlots := s.report.headSlots.set n (wokenSlot s n) } } := by
  by_cases parked : (s.ctx.get n).state = .parked
  · rw [wokenContext, wokenSlot, if_pos parked, if_pos parked, ← parked]
    exact if_pos parked
  · rw [wokenContext, wokenSlot, if_neg parked, if_neg parked, PerHead.set_get, PerHead.set_get]
    exact if_neg parked

/-- The state with every head woken. -/
def wokenState (s : State) : State := { s with
  ctx := s.ctx.map wokenContext
  report := { s.report with headSlots := ⟨wokenSlot s .h0, wokenSlot s .h1, wokenSlot s .h2, wokenSlot s .h3⟩ } }

theorem wakeAll_eq (s : State) : allHeads.foldl State.wakeHead s = wokenState s := by
  simp only [allHeads, List.foldl_cons, List.foldl_nil, wakeHead_eq]
  rfl

/-- Settles O53: each step where its condition holds, and where it does not. -/
theorem memoryRunsItsCourse : Obligations.MemoryRunsItsCourse := by
  intro s closed next settled due quiet
  refine ⟨(initSettleEnd_cases s).1, (initSettleEnd_cases s).2, fun left began state phase => ⟨fun more => ?_, fun last tag mgmt => ?_⟩,
    initRefreshDone_other, (refreshExpiry_cases s).1, (refreshExpiry_cases s).2, (refreshDone_cases s).1, (refreshDone_cases s).2,
    fun is tag mgmt => ?_, fun not => ?_, fun exiting tag mgmt => ?_, fun not => ?_⟩
  · rw [initRefreshDone_refreshing state phase, if_neg (Nat.not_le.2 more)]
    rfl
  · rw [initRefreshDone_refreshing state phase, if_pos last,
      answerInHand_given (s := s.becomeActive 0) (congrArg Management.inHand mgmt :) (congrArg Management.held mgmt :)]
    rfl
  · refine (congrArg Host.Outcome.next (if_pos ((quiesced_iff s).2 is)) : exec .selfRefreshEntry s = _).trans ?_
    rw [answerInHand_given (s := s.enterSelfRefresh) (congrArg Management.inHand mgmt :) (congrArg Management.held mgmt :)]
    rfl
  · exact congrArg Host.Outcome.next (if_neg (mt (quiesced_iff s).1 not))
  · intro woken
    refine (congrArg Host.Outcome.next (if_pos exiting) : exec .selfRefreshExitDone s = _).trans ?_
    rw [wakeAll_eq, answerInHand_given (s := wokenState (s.becomeActive 1)) (congrArg Management.inHand mgmt :) (congrArg Management.held mgmt :)]
    rfl
  · exact congrArg Host.Outcome.next (if_neg not)

/-! ### The grant -/

/-- What an access with a range costs: its bank-rows served in address order, and a write after the read (R129, R135). -/
theorem accessCost_of_range {m : MemCtl} {l : Lookup} {sp : Spill} {a : Access} {addr len : ℕ} {modify : Bool}
    (range : a.range l sp = some (addr, len, modify)) :
    (∀ q, bankRows m.interleave.bytes addr len = [q] → accessCost m l sp a =
      (rowDuration m.timing (m.openRows.getD q.1 none) q.2 + (if modify then m.timing.access else 0),
        m.openRows.set q.1 (some q.2))) ∧
    (∀ q q', bankRows m.interleave.bytes addr len = [q, q'] → accessCost m l sp a =
      (rowDuration m.timing (m.openRows.getD q.1 none) q.2 +
        rowDuration m.timing ((m.openRows.set q.1 (some q.2)).getD q'.1 none) q'.2 + (if modify then m.timing.access else 0),
        (m.openRows.set q.1 (some q.2)).set q'.1 (some q'.2))) := by
  refine ⟨fun q touched => ?_, fun q q' touched => ?_⟩
  all_goals
    simp only [accessCost, range, touched]
    rfl

/-- Settles O54: the request leaves its requester, and the access runs for its cost. -/
theorem grantRunsAccess : Obligations.GrantRunsAccess := by
  refine fun s => ⟨fun idle => ?_, fun a ready free granted => ?_⟩
  · show execMemoryGrant s = _
    rw [execMemoryGrant]
    by_cases point : s.grantPoint = true
    · have nothing : s.granted = none := by
        simp only [State.grantPoint, Bool.and_eq_true, decide_eq_true_eq, Option.isNone_iff_eq_none] at point
        exact (idle.resolve_left (not_not.2 point.1)).resolve_left (not_not.2 point.2)
      rw [if_pos point, nothing]
    · rw [if_neg point]
  · have point : s.grantPoint = true := by simp [State.grantPoint, ready, free]
    refine ⟨(accessCost s.mem s.lookup s.spill a).1, (accessCost s.mem s.lookup s.spill a).2, ?_, fun is => ?_,
      fun addr len modify range => ?_⟩
    · show execMemoryGrant s = _
      rw [execMemoryGrant, if_pos point, granted]
      cases a with
      | writeback b sl => simp [State.grant, State.removeRequest, setWriting, and_assoc]
      | _ => rfl
    · subst is
      exact ⟨rfl, rfl⟩
    · have is : a.range s.lookup s.spill = some (addr, len, modify) := by
        match a, range with
        | .walk _, range => exact congrArg some range.symm
        | .writeback _ _, range => exact congrArg some range.symm
        | .spill (.write _), range => exact congrArg some range.symm
        | .spill (.read _), range => exact congrArg some range.symm
        | .mgmt (.read _ _), range => exact congrArg some range.symm
        | .mgmt (.write _ _), range => exact congrArg some range.symm
        | .mgmt (.point _), range => exact congrArg some range.symm
      obtain ⟨one, two⟩ := accessCost_of_range (m := s.mem) is
      exact ⟨fun q touched => Prod.ext_iff.1 (one q touched), fun q q' touched => Prod.ext_iff.1 (two q q' touched)⟩

end Sys2Proof.Proofs
end

section
/-! PROOFS. Walks: a bucket taken, the slots examined, and a walk completed. -/

namespace Sys2Proof.Proofs
open Sys2Proof Sys2Proof.Machine

/-! ### Slots read (R60, R67, R70) -/

theorem settleCountOf_eq (v : ℕ) : settleCountOf v = if v = 0 then 1 else if 12 < v then 12 else v := by
  simp only [settleCountOf, clampNat, Nat.lt_one_iff]

/-- A slot's 30 bytes as they are laid out (R157). -/
def slotBytes (status settle head spare : Byte) (k : CellKey) (id tolerance number : ℕ) (pos : Vec3) : List Byte :=
  [status, settle] ++ intLE 2 k.cx ++ intLE 2 k.cy ++ intLE 2 k.cz ++ natLE 2 id ++ intLE 4 pos.x ++
    intLE 4 pos.y ++ intLE 4 pos.z ++ natLE 2 tolerance ++ [head] ++ natLE 4 number ++ [spare]

theorem slotBytes_read {status settle head spare : Byte} {k : CellKey} {id tolerance number : ℕ} {pos : Vec3}
    (key : Safety.signedVec 16 ⟨k.cx, k.cy, k.cz⟩ = true) (idLt : id < 65536) (point : Safety.signedVec 32 pos = true)
    (tolLt : tolerance < 65536) (numberLt : number < 4294967296) (bucket : ℕ) (sl : Slot) :
    let bs := slotBytes status settle head spare k id tolerance number pos
    bs.length = 30 ∧ slotValid bs = status.getLsbD 0 ∧ slotKey bs = k ∧ slotPoint bucket sl bs = {
      bucket := bucket, slot := sl, id := id, nominal := pos, tolerance := tolerance
      settle := if settle.toNat = 0 then 1 else if 12 < settle.toNat then 12 else settle.toNat
      mode := if status.getLsbD 3 then .triggered else .auto
      state := if status.getLsbD 1 then if status.getLsbD 2 then .captured else .open else .disabled
      capHead := head.toNat, capNumber := number } := by
  intro bs
  obtain ⟨cx, cy, cz⟩ := signedVec_fits (k := 2) (by decide) key
  obtain ⟨px, py, pz⟩ := signedVec_fits (k := 4) (by decide) point
  have statusByte : natAt 0 1 bs = status.toNat := natAt_cons_zero _ _
  have idAt : natAt 8 2 bs = id := by
    simp [bs, slotBytes, natAt_cons, natAt_append, natAt_natLE_append (k := 2) (v := id) (by omega)]
  have tolAt : natAt 22 2 bs = tolerance := by
    simp [bs, slotBytes, natAt_cons, natAt_append, natAt_natLE_append (k := 2) (v := tolerance) (by omega)]
  have numberAt : natAt 25 4 bs = number := by
    simp [bs, slotBytes, natAt_cons, natAt_append, natAt_natLE_append (k := 4) (v := number) (by omega)]
  have settleAt : natAt 1 1 bs = settle.toNat := by simp [bs, slotBytes, natAt_cons, natAt_cons_zero]
  have headAt : natAt 24 1 bs = head.toNat := by simp [bs, slotBytes, natAt_cons, natAt_append, natAt_cons_zero]
  have keyAt : slotKey bs = k := by
    simp [slotKey, bs, slotBytes, intAt_cons, intAt_append, intAt_intLE_append cx, intAt_intLE_append cy, intAt_intLE_append cz]
  have posAt : (⟨intAt 10 4 bs, intAt 14 4 bs, intAt 18 4 bs⟩ : Vec3) = pos := by
    simp [bs, slotBytes, intAt_cons, intAt_append, intAt_intLE_append px, intAt_intLE_append py, intAt_intLE_append pz]
  refine ⟨by simp [bs, slotBytes], by rw [slotValid, statusByte]; rfl, keyAt, ?_⟩
  have state : pointStateOf (status.toNat.testBit 1) (status.toNat.testBit 2) =
      if status.getLsbD 1 then if status.getLsbD 2 then .captured else .open else .disabled := by
    rw [BitVec.getLsbD, BitVec.getLsbD]
    cases status.toNat.testBit 1 <;> rfl
  simp only [slotPoint, posAt, idAt, tolAt, numberAt, settleAt, headAt, statusByte, settleCountOf_eq, bitAt, state]
  rfl

theorem forwarded_of_find {q : List WbEntry} {p : Point} {e : WbEntry}
    (h : q.find? (fun e => e.bucket = p.bucket && e.slot = p.slot) = some e) : forwarded q p = { p with
      state := if e.enabled then if e.captured then .captured else .open else .disabled
      capHead := e.capHead, capNumber := e.capNumber } := by
  rw [forwarded, h]
  cases enabled : e.enabled <;> simp [pointStateOf, enabled]

theorem forwarded_of_absent {q : List WbEntry} {p : Point} (h : ∀ e ∈ q, ¬(e.bucket = p.bucket ∧ e.slot = p.slot)) :
    forwarded q p = p := by
  have absent : q.find? (fun e => e.bucket = p.bucket && e.slot = p.slot) = none :=
    List.find?_eq_none.2 fun e mem => by simpa using h e mem
  rw [forwarded, absent]

theorem examine_eq (w : Walk) (q : List WbEntry) (bucket : ℕ) (sl : Slot) (bs : List Byte) :
    w.examine q bucket sl bs =
      if slotValid bs = true ∧ slotKey bs = w.key ∧ ∀ p ∈ w.matched, ¬(p.bucket = bucket ∧ p.slot = sl) then
        if w.matched.length < 4 then { w with matched := w.matched ++ [forwarded q (slotPoint bucket sl bs)] }
        else { w with overflow := true }
      else w := by
  by_cases own : slotValid bs = true ∧ slotKey bs = w.key
  · by_cases fresh : ∀ p ∈ w.matched, ¬(p.bucket = bucket ∧ p.slot = sl)
    · rw [if_pos ⟨own.1, own.2, fresh⟩]
      have new : (w.matched.any fun p => p.bucket = bucket && p.slot = sl) = false := by simpa using fresh
      simp only [Walk.examine, own.1, own.2, new]
      rfl
    · rw [if_neg fun h => fresh h.2.2]
      have seen : (w.matched.any fun p => p.bucket = bucket && p.slot = sl) = true := by simpa using fresh
      simp only [Walk.examine, own.1, own.2, seen]
      rfl
  · rw [if_neg fun h => own ⟨h.1, h.2.1⟩]
    have other : (!(slotValid bs && decide (slotKey bs = w.key))) = true := by
      rw [Bool.not_eq_true', ← Bool.not_eq_true, Bool.and_eq_true, decide_eq_true_eq]
      exact own
    rw [Walk.examine, if_pos other]

/-- Examining a slot changes what has been matched, and nothing else of a walk. -/
theorem examine_keeps {β : Type} (π : Walk → β) (matched : ∀ w ps, π { w with matched := ps } = π w)
    (overflow : ∀ w, π { w with overflow := true } = π w) (w : Walk) (q : List WbEntry) (bucket : ℕ) (sl : Slot) (bs : List Byte) :
    π (w.examine q bucket sl bs) = π w := by
  rw [examine_eq]
  split_ifs
  · exact matched w _
  · exact overflow w
  · rfl

theorem take_keeps {β : Type} (π : Walk → β) (matched : ∀ w ps, π { w with matched := ps } = π w)
    (overflow : ∀ w, π { w with overflow := true } = π w) (w : Walk) (q : List WbEntry) (bucket : ℕ) (bs : List Byte) :
    π (w.take q bucket bs) = π { w with visited := w.visited ++ [bucket], outstanding := none } :=
  (examine_keeps π matched overflow _ q bucket .b _).trans (examine_keeps π matched overflow _ q bucket .a _)

/-! ### Pending starts and the re-walk list -/

theorem walksStart_iff (s : State) : s.walksStart = true ↔
    (s.service = .active ∨ s.service = .hold) ∧ s.restartMark = false := by simp [State.walksStart]

theorem pinWaits_iff (s : State) : s.pinWaits = true ↔ ∃ tag k, s.mgmt.inHand = some ⟨tag, .pinForCharge k⟩ := by
  unfold State.pinWaits
  split
  case h_1 k is =>
    obtain ⟨⟨tag, _⟩, inHand, rfl⟩ := Option.map_eq_some_iff.1 is
    simp [inHand]
  case h_2 other =>
    simp only [Bool.false_eq_true, false_iff]
    rintro ⟨tag, k, inHand⟩
    exact other k (by rw [inHand]; rfl)

theorem pendingStartRetry_cases (s : State) (n : Head) :
    let starts := (s.service = .active ∨ s.service = .hold) ∧ s.restartMark = false
    (∀ m, s.waiting.get n = some ⟨m, true⟩ → starts → (∀ w ∈ s.lookup.walks, w.charge ≠ .head n) →
      exec (.pendingStartRetry n) s = .next ({ s with waiting := s.waiting.set n none }.lookupSample n m)) ∧
    ((∀ m, s.waiting.get n ≠ some ⟨m, true⟩) ∨ ¬starts ∨ (∃ w ∈ s.lookup.walks, w.charge = .head n) →
      exec (.pendingStartRetry n) s = .next s) := by
  intro starts
  have free_iff := chargeFree_iff_forall s.lookup (.head n)
  refine ⟨fun m waiting may free => ?_, fun not => ?_⟩
  · have taken : { s with waiting := s.waiting.set n none }.lookupSample n m = (s.setWaiting n none).lookupFresh n m := by
      rw [State.lookupSample, show (s.waiting.set n none).get n = none from PerHead.get_set_self _ _ _]
      rfl
    show execPendingStartRetry n s = _
    simp only [execPendingStartRetry, waiting, (walksStart_iff s).2 may, free_iff.2 free, taken]
    rfl
  · show execPendingStartRetry n s = _
    rw [execPendingStartRetry]
    cases waiting : s.waiting.get n with
    | none => rfl
    | some w =>
      refine congrArg Host.Outcome.next (if_neg fun all => ?_)
      simp only [Bool.and_eq_true, walksStart_iff, free_iff] at all
      obtain ⟨⟨pending, may⟩, free⟩ := all
      rcases not with never | notMay | ⟨w', mem, own⟩
      · exact never w.sample (by rw [waiting, ← pending])
      · exact notMay may
      · exact free w' mem own

theorem rewalkStart_cases {s : State} {k : CellKey} {rest : List CellKey} (listed : s.lookup.rewalk = k :: rest) :
    let can := ((s.service = .active ∨ s.service = .hold) ∧ s.restartMark = false) ∧
      (∀ w ∈ s.lookup.walks, w.charge ≠ .management) ∧ ∀ tag k', s.mgmt.inHand ≠ some ⟨tag, .pinForCharge k'⟩
    let h := cellHash s.lookup.bucketCount k
    (can → exec .rewalkStart s = .next { s with
      lookup := { s.lookup with
        rewalk := rest
        walks := s.lookup.walks ++ [⟨.management, k, [], true, [], [], false, some h, false, false⟩] }
      mem := { s.mem with walkQueue := s.mem.walkQueue ++ [⟨.management, h, s.lookup.base + h * 64⟩] } }) ∧
    (¬can → exec .rewalkStart s = .next s) := by
  intro can h
  have can_iff : (s.walksStart && s.lookup.chargeFree .management && !s.pinWaits) = true ↔ can := by
    rw [Bool.and_eq_true, Bool.and_eq_true, walksStart_iff, chargeFree_iff_forall, Bool.not_eq_true', and_assoc,
      ← Bool.not_eq_true s.pinWaits, pinWaits_iff]
    simp only [not_exists, can, ne_eq, and_assoc]
  have run : exec .rewalkStart s = .next (if s.walksStart && s.lookup.chargeFree .management && !s.pinWaits then
      { s with lookup := { s.lookup with rewalk := rest } }.startWalk .management k [] true else s) := by
    show execRewalkStart s = _
    rw [execRewalkStart, listed]
  exact ⟨fun is => run.trans (congrArg _ (if_pos (can_iff.2 is))), fun not => run.trans (congrArg _ (if_neg (mt can_iff.1 not)))⟩

/-! ### Insertion (R71, R72) -/

theorem insert_places (l : Lookup) (c : CellRecord) :
    { l.insert c with records := l.records, victim := l.victim } = l := by
  unfold Lookup.insert
  split
  · rfl
  · split <;> rfl

theorem insert_free {l : Lookup} {i : ℕ} (c : CellRecord) (free : l.records[i]? = some none)
    (first : ∀ j, j < i → l.records[j]? ≠ some none) : l.insert c = { l with records := l.records.set i (some c) } := by
  have found : freeRecord l.records = some i := by
    obtain ⟨bound, is⟩ := List.getElem?_eq_some_iff.1 free
    refine List.findIdx?_eq_some_iff_getElem.2 ⟨bound, by rw [is]; rfl, fun j lt none_ => first j lt ?_⟩
    rw [List.getElem?_eq_getElem (lt.trans bound), Option.isNone_iff_eq_none.1 none_]
  rw [Lookup.insert, found]

theorem insert_victim {l : Lookup} (c : CellRecord) (length : l.records.length = 32) (full : ∀ o ∈ l.records, o ≠ none) {j : ℕ}
    (lt : j < 32) (unpinned : ∃ o, l.records[(l.victim + j) % 32]? = some (some o) ∧ o.pinned = false)
    (passed : ∀ i, i < j → ∀ o, l.records[(l.victim + i) % 32]? = some (some o) → o.pinned = true) :
    l.insert c = { l with
      records := l.records.set ((l.victim + j) % 32) (some c), victim := ((l.victim + j) % 32 + 1) % 32 } := by
  have noFree : freeRecord l.records = none :=
    List.findIdx?_eq_none_iff.2 fun o mem => Option.isNone_eq_false_iff.2 (Option.isSome_iff_ne_none.2 (full o mem))
  have found : victimOf l = some ((l.victim + j) % 32) := by
    rw [victimOf, List.find?_map]
    have which : (List.range 32).find? (fun i => (recordAt l.records ((l.victim + i) % 32)).any fun r => !r.pinned) = some j := by
      rw [List.find?_range_eq_some]
      obtain ⟨o, at_, free⟩ := unpinned
      refine ⟨?_, List.mem_range.2 lt, fun i before => ?_⟩
      · rw [recordAt, List.getD_eq_getElem?_getD, at_]
        simp [free]
      · have bound : (l.victim + i) % 32 < l.records.length := by omega
        rw [recordAt, List.getD_eq_getElem?_getD, List.getElem?_eq_getElem bound]
        cases is : l.records[(l.victim + i) % 32] with
        | none => exact absurd is (full _ (List.getElem_mem bound))
        | some o =>
          have pinned := passed i before o (by rw [List.getElem?_eq_getElem bound, is])
          simp [pinned]
    exact congrArg (Option.map _) which
  rw [Lookup.insert, noFree, found]

end Sys2Proof.Proofs
end

section
/-! PROOFS. A walk's bucket read taken: the walk goes on, or completes with its record, its waiting samples and its PIN_CELL. -/

namespace Sys2Proof.Proofs
open Sys2Proof Sys2Proof.Machine

/-! ### The waiting samples handed on with the record (R71) -/

/-- A fault of a head changes its fault record and the report unit alone. -/
theorem raised_head_rest (s : State) (n : Head) (kind : FaultKind) (detail : ℕ) :
    { Safety.raised s (some n) kind detail with headFaults := s.headFaults, report := s.report } = s := by
  unfold Safety.raised
  split <;> rfl

theorem raised_part_rest (s : State) (kind : FaultKind) (detail : ℕ) :
    { Safety.raised s none kind detail with partFault := s.partFault, report := s.report } = s := by
  unfold Safety.raised
  split <;> rfl

/-- The state with the waiting sample of a head finished, CELL_OVERFLOW raised where its record overflowed. -/
def noted (s : State) (c : CellRecord) (n : Head) (index : ℕ) : State :=
  if c.overflow = true then Safety.raised { s with waiting := s.waiting.set n none } (some n) .cellOverflow index
  else { s with waiting := s.waiting.set n none }

theorem handWaiting_eq (s : State) (c : CellRecord) (n : Head) : s.handWaiting c n =
    (s.waiting.get n).elim s fun y => (noted s c n y.sample.index).toCapture n ⟨y.sample, .record c⟩ := by
  unfold State.handWaiting
  cases s.waiting.get n with
  | none => rfl
  | some y =>
    simp only [State.handOn, raise_eq_raised, LookupResult.recordOf, Option.any_some]
    rfl

/-- From s to t the waiting samples of the heads listed have been handed on. -/
structure WaitersHanded (l : List Head) (s t : State) : Prop where
  waiting : ∀ n, t.waiting.get n = if n ∈ l then none else s.waiting.get n
  others : ∀ n ∉ l, t.settle.get n = s.settle.get n ∧ t.behind.get n = s.behind.get n ∧
    t.headFaults.get n = s.headFaults.get n
  capture : { t.capture with waiting := s.capture.waiting } = s.capture
  rest : { t with
    waiting := s.waiting, settle := s.settle, behind := s.behind, capture := s.capture, report := s.report
    uplink := s.uplink, headFaults := s.headFaults } = s

theorem noted_rest (s : State) (c : CellRecord) (n : Head) (index : ℕ) :
    { noted s c n index with waiting := s.waiting, headFaults := s.headFaults, report := s.report } = s := by
  unfold noted
  split
  · exact congrArg (fun x : State => { x with waiting := s.waiting })
      (raised_head_rest { s with waiting := s.waiting.set n none } n .cellOverflow index)
  · rfl

theorem waitersHanded_one (s : State) (c : CellRecord) (n : Head) : WaitersHanded [n] s (s.handWaiting c n) := by
  rw [handWaiting_eq]
  cases sample : s.waiting.get n with
  | none =>
    refine ⟨fun m => ?_, fun _ _ => ⟨rfl, rfl, rfl⟩, rfl, rfl⟩
    split
    case isTrue mem => exact List.mem_singleton.1 mem ▸ sample
    case isFalse => rfl
  | some y =>
    have share := (ownShare_setWaiting n s none).trans (ownShare_handOn n (s.setWaiting n none) y.sample (.record c))
    have run : (s.setWaiting n none).handOn n y.sample (.record c) =
        (noted s c n y.sample.index).toCapture n ⟨y.sample, .record c⟩ := by
      simp only [State.handOn, raise_eq_raised, LookupResult.recordOf, Option.any_some]
      rfl
    rw [run] at share
    have handed := samplesHanded_toCapture (noted s c n y.sample.index) n ⟨y.sample, .record c⟩
    have noted_ := noted_rest s c n y.sample.index
    have waiting : (noted s c n y.sample.index).waiting = s.waiting.set n none := by
      unfold noted
      split
      · exact (congrArg State.waiting (raised_head_rest { s with waiting := s.waiting.set n none } n .cellOverflow _) :)
      · rfl
    refine ⟨fun m => ?_, fun m out => ?_, share.capture, ?_⟩
    · have same := (congrArg State.waiting handed.rest :).trans waiting
      refine (congrArg (PerHead.get · m) same).trans ?_
      rw [PerHead.get_set]
      simp only [List.mem_singleton]
    · obtain ⟨faults, -, settle, behind, -⟩ := share.others m fun is => out (List.mem_singleton.2 is)
      exact ⟨settle, behind, faults⟩
    · let keep (x : State) : State := { x with
        waiting := s.waiting, settle := s.settle, behind := s.behind, capture := s.capture, report := s.report
        uplink := s.uplink, headFaults := s.headFaults }
      exact (congrArg keep handed.rest :).trans (congrArg keep noted_ :)

theorem waitersHanded_foldl (c : CellRecord) (l : List Head) (s : State) :
    WaitersHanded l s (l.foldl (fun b n => b.handWaiting c n) s) := by
  induction l generalizing s with
  | nil => exact ⟨fun _ => rfl, fun _ _ => ⟨rfl, rfl, rfl⟩, rfl, rfl⟩
  | cons n l ih =>
    have first := waitersHanded_one s c n
    have further := ih (s.handWaiting c n)
    refine ⟨fun m => ?_, fun m out => ?_, ?_, ?_⟩
    · refine (further.waiting m).trans ?_
      rw [first.waiting m]
      by_cases here : m = n <;> by_cases later : m ∈ l <;> simp [here, later]
    · obtain ⟨notHere, notLater⟩ := not_or.1 fun or => out (List.mem_cons.2 or)
      obtain ⟨q, b, f⟩ := first.others m fun is => notHere (List.mem_singleton.1 is)
      obtain ⟨q', b', f'⟩ := further.others m notLater
      exact ⟨q'.trans q, b'.trans b, f'.trans f⟩
    · exact (congrArg (fun x : Capture => { x with waiting := s.capture.waiting }) further.capture).trans first.capture
    · let keep (x : State) : State := { x with
        waiting := s.waiting, settle := s.settle, behind := s.behind, capture := s.capture, report := s.report
        uplink := s.uplink, headFaults := s.headFaults }
      exact (congrArg keep further.rest :).trans first.rest

/-! ### The PIN_CELL that waits (R76) -/

theorem answerPin_of_none {s : State} {c : CellRecord} (h : ∀ tag, s.mgmt.inHand ≠ some ⟨tag, .pinForWalk c.key⟩) :
    s.answerPin c = s := by
  unfold State.answerPin
  split
  case h_1 k is =>
    obtain ⟨⟨tag, _⟩, inHand, rfl⟩ := Option.map_eq_some_iff.1 is
    exact if_neg fun own : k = c.key => h tag (own ▸ inHand)
  case h_2 => rfl

theorem recordIndex_of_first {k : CellKey} {rs : List (Option CellRecord)} {i : ℕ}
    (at_ : ∃ x, rs[i]? = some (some x) ∧ x.key = k) (first : ∀ j x, j < i → rs[j]? = some (some x) → x.key ≠ k) :
    recordIndex k rs = some i := by
  obtain ⟨x, is, key⟩ := at_
  obtain ⟨bound, is⟩ := List.getElem?_eq_some_iff.1 is
  refine List.findIdx?_eq_some_iff_getElem.2 ⟨bound, by rw [is]; simpa using key, fun j lt found => ?_⟩
  obtain ⟨y, at_, own⟩ := (Option.any_eq_true _ _).1 found
  exact first j y lt (by rw [List.getElem?_eq_getElem (lt.trans bound), at_]) (of_decide_eq_true own)

theorem answerPin_of_inHand {s : State} {c : CellRecord} {tag : Byte} (mgmt : s.mgmt = ⟨some ⟨tag, .pinForWalk c.key⟩, none⟩) :
    s.answerPin c = Safety.given s
      (Safety.answer tag 18 .ok (pinData ((recordIndex c.key s.lookup.records).getD 0) c)) := by
  have run : s.answerPin c = s.answerInHand .ok (pinData ((recordIndex c.key s.lookup.records).getD 0) c) := by
    rw [State.answerPin, mgmt]
    exact if_pos rfl
  rw [run, answerInHand_given (congrArg Management.inHand mgmt) (congrArg Management.held mgmt)]
  rfl

/-- An answer to a waiting PIN_CELL touches the report unit, the uplink and the management unit alone. -/
theorem answerPin_rest (s : State) (c : CellRecord) :
    { s.answerPin c with report := s.report, uplink := s.uplink, mgmt := s.mgmt } = s := by
  simp

/-! ### A walk completed (R71) -/

theorem completeWalk_eq (s : State) (w : Walk) (incomplete : Bool) : ∃ (order : List Head) (k : ℕ), order.Perm w.waiters ∧
    s.completeWalk w incomplete = (order.foldl (fun (b : State) n => b.handWaiting (w.toRecord s.capture.writeback incomplete) n)
      { s with
        lookup := (s.lookup.endWalk w.charge).insert (w.toRecord s.capture.writeback incomplete)
        freeCount := k }).answerPin (w.toRecord s.capture.writeback incomplete) := by
  let inserted : State := { s with
    lookup := (s.lookup.endWalk w.charge).insert (w.toRecord s.capture.writeback incomplete) }
  refine ⟨(freelyOrdered w.waiters inserted).1, (freelyOrdered w.waiters inserted).2.freeCount,
    freelyOrdered_perm w.waiters inserted, ?_⟩
  simp only [State.completeWalk]
  rw [freelyOrdered_snd]

/-- The end of a chain at a link: BAD_LINK or CHAIN_LIMIT raised where the link is not 0. -/
def linkRaised (next count bucket : ℕ) (b : State) : State :=
  if next = 0 then b else Safety.raised b none (if count ≤ next then .badLink else .chainLimit) bucket

theorem linkRaised_rest (next count bucket : ℕ) (b : State) :
    { linkRaised next count bucket b with partFault := b.partFault, report := b.report } = b := by
  unfold linkRaised
  split
  · rfl
  · exact raised_part_rest b _ _

/-- What a next-bucket index that ends the chain makes of a walk: it completes, and a bad or overlong link is raised. -/
theorem followLink_ends {s : State} {w : Walk} {bucket next : ℕ}
    (ends : next = 0 ∨ s.lookup.bucketCount ≤ next ∨ 4 ≤ w.visited.length) : s.followLink w bucket next =
      linkRaised next s.lookup.bucketCount bucket (s.completeWalk w (decide (next ≠ 0))) := by
  unfold State.followLink judgeLink linkRaised
  by_cases zero : next = 0
  · rw [if_pos zero, if_pos zero, decide_eq_false (not_not.2 zero)]
  · rw [if_neg zero, if_neg zero, decide_eq_true zero]
    by_cases large : s.lookup.bucketCount ≤ next
    · rw [if_pos large, if_pos large]
      exact raise_eq_raised _ _ _ _
    · have long : ¬w.visited.length < Config.walkBuckets :=
        Nat.not_lt.2 ((ends.resolve_left zero).resolve_left large)
      rw [if_neg large, if_neg large, if_neg long]
      exact raise_eq_raised _ _ _ _

theorem followLink_follows {s : State} {w : Walk} {bucket next : ℕ} (some_ : next ≠ 0) (below : next < s.lookup.bucketCount)
    (short : w.visited.length < 4) : s.followLink w bucket next =
      { s with lookup := s.lookup.mapWalk w.charge fun _ => w }.walkRequest w.charge next := by
  have judged : judgeLink s.lookup.bucketCount w.visited.length next = .follow next := by
    rw [judgeLink, if_neg some_, if_neg (Nat.not_le.2 below), if_pos short]
  rw [State.followLink, judged]

theorem raised_partFault {s t : State} (part : t.partFault = s.partFault) (time : t.time = s.time) (kind : FaultKind)
    (detail : ℕ) : (Safety.raised t none kind detail).partFault = (Safety.raised s none kind detail).partFault := by
  have faults : Safety.faultsOf t none = Safety.faultsOf s none := part
  rw [Safety.raised, Safety.raised, faults, time]
  by_cases first : (Safety.faultsOf s none).first.isNone = true
  · rw [if_pos first, if_pos first]
    rfl
  · rw [if_neg first, if_neg first]
    rfl

/-- What a completed walk leaves: from s with lookup state l to t. -/
structure WalkEnded (s : State) (l : Lookup) (w : Walk) (t : State) : Prop where
  lookup : t.lookup = l
  waiting : ∀ n, t.waiting.get n = if n ∈ w.waiters then none else s.waiting.get n
  answered : ∀ tag, s.mgmt = ⟨some ⟨tag, .pinForWalk w.key⟩, none⟩ → t.mgmt.inHand = none
  mgmt : (∀ tag, s.mgmt.inHand ≠ some ⟨tag, .pinForWalk w.key⟩) → t.mgmt = s.mgmt
  others : ∀ n, n ∉ w.waiters → t.settle.get n = s.settle.get n ∧ t.behind.get n = s.behind.get n ∧
    t.headFaults.get n = s.headFaults.get n
  capture : { t.capture with waiting := s.capture.waiting } = s.capture
  rest : { t with
    lookup := s.lookup, waiting := s.waiting, settle := s.settle, behind := s.behind, capture := s.capture
    report := s.report, uplink := s.uplink, mgmt := s.mgmt, partFault := s.partFault
    headFaults := s.headFaults, freeCount := s.freeCount } = s

theorem walkEnded (s : State) (l : Lookup) (w : Walk) (c : CellRecord) {order : List Head} (perm : order.Perm w.waiters) (k : ℕ)
    (key : c.key = w.key) (next count bucket : ℕ) : WalkEnded s l w (linkRaised next count bucket
      ((order.foldl (fun (b : State) n => b.handWaiting c n) { s with lookup := l, freeCount := k }).answerPin c)) := by
  have handed := waitersHanded_foldl c order { s with lookup := l, freeCount := k }
  generalize order.foldl (fun (b : State) n => b.handWaiting c n) { s with lookup := l, freeCount := k } = h at handed
  have pinned := answerPin_rest h c
  have ended := linkRaised_rest next count bucket (h.answerPin c)
  have mgmt : h.mgmt = s.mgmt := (congrArg State.mgmt handed.rest :)
  refine ⟨?_, fun n => ?_, fun tag inHand => ?_, fun none_ => ?_, fun n out => ?_, ?_, ?_⟩
  · exact ((congrArg State.lookup ended :).trans (congrArg State.lookup pinned :)).trans (congrArg State.lookup handed.rest :)
  · refine (congrArg (fun x : State => x.waiting.get n) ended).trans ((congrArg (fun x : State => x.waiting.get n) pinned).trans ?_)
    refine (handed.waiting n).trans ?_
    simp only [perm.mem_iff]
  · refine (congrArg (fun x : State => x.mgmt.inHand) ended).trans ?_
    rw [answerPin_of_inHand (tag := tag) (by rw [mgmt, inHand, key])]
    exact (given_answered _ _).1
  · refine (congrArg State.mgmt ended :).trans ?_
    rw [answerPin_of_none (by rw [mgmt, key]; exact none_), mgmt]
  · obtain ⟨settle, behind, faults⟩ := handed.others n fun mem => out (perm.mem_iff.1 mem)
    have settle' := (congrArg State.settle ended :).trans (congrArg State.settle pinned :)
    have behind' := (congrArg State.behind ended :).trans (congrArg State.behind pinned :)
    have faults' := (congrArg State.headFaults ended :).trans (congrArg State.headFaults pinned :)
    exact ⟨(congrArg (PerHead.get · n) settle').trans settle, (congrArg (PerHead.get · n) behind').trans behind,
      (congrArg (PerHead.get · n) faults').trans faults⟩
  · have kept := (congrArg State.capture ended :).trans (congrArg State.capture pinned :)
    exact (congrArg (fun x : Capture => { x with waiting := s.capture.waiting }) kept).trans handed.capture
  · let keep (x : State) : State := { x with
      lookup := s.lookup, waiting := s.waiting, settle := s.settle, behind := s.behind, capture := s.capture
      report := s.report, uplink := s.uplink, mgmt := s.mgmt, partFault := s.partFault
      headFaults := s.headFaults, freeCount := s.freeCount }
    exact ((congrArg keep ended :).trans (congrArg keep pinned :)).trans (congrArg keep handed.rest :)

theorem walkEnded_partFault (s : State) (l : Lookup) (c : CellRecord) (order : List Head) (k next count bucket : ℕ) :
    (linkRaised next count bucket
      ((order.foldl (fun (b : State) n => b.handWaiting c n) { s with lookup := l, freeCount := k }).answerPin c)).partFault =
    if next = 0 then s.partFault
    else (Safety.raised s none (if count ≤ next then .badLink else .chainLimit) bucket).partFault := by
  have handed := waitersHanded_foldl c order { s with lookup := l, freeCount := k }
  generalize order.foldl (fun (b : State) n => b.handWaiting c n) { s with lookup := l, freeCount := k } = h at handed
  have pinned := answerPin_rest h c
  have part : (h.answerPin c).partFault = s.partFault :=
    (congrArg State.partFault pinned :).trans (congrArg State.partFault handed.rest :)
  have time : (h.answerPin c).time = s.time := (congrArg State.time pinned :).trans (congrArg State.time handed.rest :)
  unfold linkRaised
  split
  · exact part
  · exact raised_partFault part time _ _

/-! ### A bucket read taken -/

section
variable {s : State} {r : WalkRead} {g d : ℕ}

/-- The data of the read in progress reaches its walk, if its bucket lies in table memory. -/
theorem walkReadDone_run (running : s.mem.running = some ⟨.walk r, g, d⟩) (inside : r.addr + 64 ≤ 67108864) :
    exec .walkReadDone s = .next (s.endAccess.walkData r (s.readBytes r.addr 64)) := by
  have access : s.access = some (.walk r) := by rw [State.access, running]; rfl
  show execWalkReadDone s = _
  rw [execWalkReadDone, access]
  exact withinMemory_next inside _

theorem find_by_charge {ws : List Walk} (distinct : (ws.map Walk.charge).Nodup) {w : Walk} (mem : w ∈ ws) {c : Charge}
    (own : w.charge = c) : (ws.find? fun v => v.charge = c) = some w := by
  cases found : ws.find? fun v => v.charge = c with
  | none => exact absurd (decide_eq_true own) (List.find?_eq_none.1 found w mem)
  | some v =>
    have same : v.charge = w.charge := (by simpa using List.find?_some found : v.charge = c).trans own.symm
    rw [List.inj_on_of_nodup_map distinct (List.mem_of_find?_eq_some found) mem same]

/-- A walk in place of the one of its charge, which then asks for a bucket. -/
theorem map_replace_ask (ws : List Walk) {w : Walk} {c : Charge} (h : w.charge = c) (b : ℕ) :
    ((ws.map fun v => if v.charge = c then w else v).map fun v =>
      if v.charge = c then { v with outstanding := some b, dropData := false } else v) =
    ws.map fun v => if v.charge = c then { w with outstanding := some b, dropData := false } else v := by
  rw [List.map_map]
  refine List.map_congr_left fun v _ => ?_
  by_cases own : v.charge = c <;> simp [own, h]

/-- The state with its walks replaced and a bucket asked for (R67). -/
def asking (s : State) (c : Charge) (b : ℕ) (ws : List Walk) : State := { s with
  lookup := { s.lookup with walks := ws }
  mem := { s.mem with walkQueue := s.mem.walkQueue ++ [⟨c, b, s.lookup.base + b * 64⟩] } }

theorem walkRequest_eq (s : State) (c : Charge) (b : ℕ) : s.walkRequest c b = asking s c b
    (s.lookup.walks.map fun v => if v.charge = c then { v with outstanding := some b, dropData := false } else v) := rfl

theorem map_ask {ws : List Walk} (distinct : (ws.map Walk.charge).Nodup) {w : Walk} (mem : w ∈ ws) (b : ℕ) :
    (ws.map fun v => if v.charge = w.charge then { v with outstanding := some b, dropData := false } else v) =
    ws.map fun v => if v.charge = w.charge then { w with outstanding := some b, dropData := false } else v := by
  refine List.map_congr_left fun v mem' => ?_
  by_cases own : v.charge = w.charge
  · rw [if_pos own, if_pos own, List.inj_on_of_nodup_map distinct mem' mem own]
  · rw [if_neg own, if_neg own]

theorem walkData_of_find {w : Walk} (found : (s.lookup.walks.find? fun v => v.charge = r.charge) = some w) (bs : List Byte) :
    s.walkData r bs =
      if w.discarded || w.cancelled then { s with lookup := s.lookup.endWalk w.charge }
      else if w.dropData then s.walkRequest w.charge (s.lookup.hashed w.key)
      else s.followLink (w.take s.capture.writeback r.bucket bs) r.bucket (bucketNext bs) := by
  rw [State.walkData, found]

/-- A walk whose result is to be dropped (R73). -/
theorem dead_iff (w : Walk) : (w.discarded || w.cancelled) = true ↔ w.discarded = true ∨ w.waiters = [] ∧ w.pin = false := by
  simp [Walk.cancelled]

/-- The next-bucket index of a bucket's bytes read (R59). -/
theorem bucketNext_readBytes (s : State) (a : ℕ) : bucketNext (s.readBytes a 64) = leNat ((s.readBytes a 64).drop 60) := by
  have length : ((s.readBytes a 64).drop 60).length ≤ 4 := by simp [State.readBytes]
  rw [bucketNext, natAt, field, List.take_of_length_le length]

end

/-- Settles O55: the read in progress reaches its walk; the walk is dropped, goes on, or completes. -/
theorem walksRun : Obligations.WalksRun := by
  refine ⟨fun s r g d running inside distinct => ?_, fun w q bucket bs => ?_, fun bucket sl status settle head spare k id tolerance
    number pos key idLt point tolLt numberLt => slotBytes_read key idLt point tolLt numberLt bucket sl,
    fun q p => ⟨fun e found => forwarded_of_find found, forwarded_of_absent⟩, examine_eq, fun s n => ?_⟩
  · intro l idle asks data replaced others
    have run := walkReadDone_run running inside
    refine ⟨fun gone => ?_, fun w mem own => ?_⟩
    · have absent : (s.endAccess.lookup.walks.find? fun v => v.charge = r.charge) = none :=
        List.find?_eq_none.2 fun v mem is => gone v mem (of_decide_eq_true is)
      rw [run, State.walkData, absent]
      rfl
    intro dead read next
    have found : (s.endAccess.lookup.walks.find? fun v => v.charge = r.charge) = some w := find_by_charge distinct mem own
    rw [walkData_of_find found] at run
    refine ⟨fun is => ?_, fun alive drop => ?_, fun alive keep => ?_⟩
    · rw [run, if_pos ((dead_iff w).2 is), own]
      rfl
    · intro h
      have asked := map_ask distinct mem h
      rw [own] at asked
      rw [run, if_neg (mt (dead_iff w).1 alive), if_pos drop, own, walkRequest_eq]
      exact congrArg (fun ws => Host.Outcome.next (asking s.endAccess r.charge h ws)) asked
    · rw [if_neg (mt (dead_iff w).1 alive), if_neg (by simp [keep])] at run
      have charge : read.charge = w.charge := take_keeps Walk.charge (fun _ _ => rfl) (fun _ => rfl) w _ _ _
      have key : read.key = w.key := take_keeps Walk.key (fun _ _ => rfl) (fun _ => rfl) w _ _ _
      have pin : read.pin = w.pin := take_keeps Walk.pin (fun _ _ => rfl) (fun _ => rfl) w _ _ _
      have waiters : read.waiters = w.waiters := take_keeps Walk.waiters (fun _ _ => rfl) (fun _ => rfl) w _ _ _
      have visited : read.visited = w.visited ++ [r.bucket] := take_keeps Walk.visited (fun _ _ => rfl) (fun _ => rfl) w _ _ _
      have steps : read.visited.length = w.visited.length + 1 := by rw [visited, List.length_append, List.length_singleton]
      rw [bucketNext_readBytes] at run
      have run : exec .walkReadDone s = .next (s.endAccess.followLink read r.bucket next) := run
      refine ⟨visited, key, pin, waiters, fun some_ below short => ?_, fun ends => ?_⟩
      · have asked := map_replace_ask l.walks (charge.trans own) next
        have follows := followLink_follows (s := s.endAccess) (bucket := r.bucket) some_ below (steps ▸ short)
        rw [walkRequest_eq, charge, own] at follows
        exact (run.trans (congrArg _ follows)).trans
          (congrArg (fun ws => Host.Outcome.next (asking s.endAccess r.charge next ws)) asked)
      · intro c bad
        obtain ⟨order, k, perm, completes⟩ := completeWalk_eq s.endAccess read (decide (next ≠ 0))
        have record : read.toRecord s.capture.writeback (decide (next ≠ 0)) = c := by rw [Walk.toRecord, pin, key]
        let l' : Lookup := (s.endAccess.lookup.endWalk r.charge).insert c
        rw [show s.endAccess.capture = s.capture from rfl, record, charge, own] at completes
        have finished : exec .walkReadDone s = .next (linkRaised next l.bucketCount r.bucket
            ((order.foldl (fun (b : State) n => b.handWaiting c n) { s.endAccess with lookup := l', freeCount := k }).answerPin c)) := by
          have judged := followLink_ends (s := s.endAccess) (w := read) (bucket := r.bucket) (steps ▸ ends)
          exact run.trans (congrArg _ (judged.trans (congrArg (linkRaised next l.bucketCount r.bucket) completes)))
        rw [waiters] at perm
        have left := walkEnded s.endAccess l' w c perm k rfl next l.bucketCount r.bucket
        have part := walkEnded_partFault s.endAccess l' c order k next l.bucketCount r.bucket
        rw [raised_partFault (s := s) (t := s.endAccess) rfl rfl] at part
        have passed := waitersHanded_foldl c order { s.endAccess with lookup := l', freeCount := k }
        generalize is : order.foldl (fun (b : State) n => b.handWaiting c n) { s.endAccess with lookup := l', freeCount := k } = h
          at finished left part passed
        refine ⟨_, finished, ?_, ?_, fun i free first => ?_, fun length full j lt unpinned pinned => ?_, left.waiting, part,
          left.answered, left.mgmt, left.others, left.capture, left.rest⟩
        · exact (congrArg (fun x : Lookup => { x with records := l.records, victim := l.victim }) left.lookup).trans
            (insert_places (l.endWalk r.charge) c)
        · intro hand ended
          have same_hand : hand = fun b n => b.handWaiting c n := by
            funext b n
            rw [handWaiting_eq]
            dsimp only [hand]
            cases b.waiting.get n <;> rfl
          have mgmt : h.mgmt = s.mgmt := (congrArg State.mgmt passed.rest :)
          have lookup : h.lookup = l' := (congrArg State.lookup passed.rest :)
          refine ⟨order, k, perm, ?_⟩
          intro handed
          have same : handed = h := (congrArg₂ (fun f lk => order.foldl f { s with mem := idle, lookup := lk, freeCount := k })
            same_hand left.lookup).trans is
          refine ⟨fun none_ => ?_, fun tag inHand i at_ first => ?_⟩
          · rw [same, answerPin_of_none (by rw [mgmt]; exact none_)]
            rfl
          · rw [left.lookup] at at_ first
            rw [same, answerPin_of_inHand (mgmt.trans inHand), lookup, recordIndex_of_first at_ first]
            rfl
        · have inserted := insert_free (l := l.endWalk r.charge) c free first
          exact ⟨(congrArg Lookup.records left.lookup).trans (congrArg Lookup.records inserted :),
            (congrArg Lookup.victim left.lookup).trans (congrArg Lookup.victim inserted :)⟩
        · have inserted := insert_victim (l := l.endWalk r.charge) c length full lt unpinned pinned
          exact ⟨(congrArg Lookup.records left.lookup).trans (congrArg Lookup.records inserted :),
            (congrArg Lookup.victim left.lookup).trans (congrArg Lookup.victim inserted :)⟩
  · rfl
  · obtain ⟨starts, waits⟩ := pendingStartRetry_cases s n
    refine ⟨starts, waits, fun k rest listed => ?_, fun none_ => ?_⟩
    · simpa only [and_assoc] using rewalkStart_cases listed
    · show execRewalkStart s = _
      rw [execRewalkStart, none_]

end Sys2Proof.Proofs
end

section
/-! PROOFS. Capture attempts: their tests, those that make nothing, and those that make a capture. -/

namespace Sys2Proof.Proofs
open Sys2Proof Sys2Proof.Machine

/-! ### The tests (R93) -/

theorem writeInHand_iff (s : State) (b : ℕ) (sl : Slot) : s.writeInHand b sl = true ↔
    ∃ tag w, s.mgmt.inHand = some ⟨tag, w⟩ ∧ (w = .pointWrite b sl ∨ (∃ asked, w = .pointBlocked b sl asked) ∨
      ∃ x bs, (x < s.lookup.base + b * 64 + slotOffset sl + 30 ∧ s.lookup.base + b * 64 + slotOffset sl < x + bs.length) ∧
        (w = .memWrite x bs ∨ w = .memWriteBlocked x bs)) := by
  have overlaps (x : ℕ) (bs : List Byte) : overlap x bs.length (slotAddress s.lookup.base b sl) Config.slotBytes = true ↔
      x < s.lookup.base + b * 64 + slotOffset sl + 30 ∧ s.lookup.base + b * 64 + slotOffset sl < x + bs.length := overlap_iff _ _ _ _
  cases inHand : s.mgmt.inHand with
  | none => simp [State.writeInHand, inHand]
  | some h =>
    obtain ⟨tag, w⟩ := h
    cases w with
    | pointBlocked b' sl' asked =>
      simp [State.writeInHand, inHand]
      exact and_congr eq_comm eq_comm
    | pointWrite b' sl' =>
      simp [State.writeInHand, inHand]
      exact and_congr eq_comm eq_comm
    | memWriteBlocked x bs => simp [State.writeInHand, inHand, overlaps]
    | memWrite x bs => simp [State.writeInHand, inHand, overlaps]
    | _ => simp [State.writeInHand, inHand]

theorem attemptHeld_iff (s : State) (b : ℕ) (sl : Slot) : Safety.attemptHeld s b sl ↔
    s.writeInHand b sl = true ∨ wbHas s.capture.writeback b sl .writing = true ∨
      (8 ≤ s.capture.writeback.length ∧ wbHas s.capture.writeback b sl .waiting = false) := by
  rw [← Bool.not_eq_true (wbHas _ _ _ .waiting), writeInHand_iff, wbHas_iff, wbHas_iff]
  rfl

/-- The tests of R93 in their order. -/
theorem captureTests_eq (s : State) (b : ℕ) (sl : Slot) [Decidable (Safety.attemptHeld s b sl)] : s.captureTests b sl =
    if s.capture.nextNumber = none then .refused false
    else if Safety.attemptHeld s b sl then .deferred
    else if s.spill.count = 0 ∧ s.report.occupancy < 48 then .pass .queue
    else if 512 ≤ s.spill.count then .refused true
    else if s.spill.configured = false then .refused false
    else if 4 ≤ s.spill.writes.length then .deferred
    else .pass .ring := by
  have room : (decide (s.spill.count = 0) && s.report.placeFree) = true ↔ s.spill.count = 0 ∧ s.report.occupancy < 48 := by
    rw [Bool.and_eq_true, decide_eq_true_eq, Report.placeFree, decide_eq_true_eq]
  have full : (decide (s.capture.writeback.length ≥ Config.writebackPlaces) && !wbHas s.capture.writeback b sl .waiting) = true ↔
      8 ≤ s.capture.writeback.length ∧ wbHas s.capture.writeback b sl .waiting = false := by
    rw [Bool.and_eq_true, decide_eq_true_eq, Bool.not_eq_true']
  simp only [State.captureTests, Option.isNone_iff_eq_none, room, full, Bool.not_eq_true', ge_iff_le]
  by_cases held : Safety.attemptHeld s b sl
  · rw [if_pos held]
    rcases (attemptHeld_iff s b sl).1 held with inHand | writing | noPlace
    · rw [if_pos inHand]
    · rw [if_pos writing, ite_self]
    · rw [if_pos noPlace, ite_self, ite_self]
  · rw [if_neg held]
    obtain ⟨inHand, writing, noPlace⟩ := (not_or.1 (mt (attemptHeld_iff s b sl).2 held)).imp_right not_or.1
    rw [if_neg inHand, if_neg writing, if_neg noPlace]

/-! ### An attempt and its end -/

/-- The state with its attempts that wait replaced. -/
def withAttempts (rest : List Attempt) (s : State) : State := { s with capture := { s.capture with waiting := rest } }

/-- The first waiting attempt in progress. -/
def attempting (rest : List Attempt) (n : Head) (s : State) : State :=
  { s with capture := { s.capture with waiting := rest, attempt := some n } }

theorem captureAttempt_idle {s : State} (h : s.capture.attempt ≠ none ∨ s.capture.waiting = []) :
    exec .captureAttempt s = .next s := by
  show execCaptureAttempt s = _
  unfold execCaptureAttempt
  split
  case h_1 attempt waiting => simp [attempt, waiting] at h
  case h_2 => rfl

section
variable {s : State} {a : Attempt} {rest : List Attempt}

theorem captureAttempt_run (attempt : s.capture.attempt = none) (waiting : s.capture.waiting = a :: rest) :
    exec .captureAttempt s = .next ((((attempting rest a.head s).runAttempt a).setAttempt none).endAttempt a) := by
  show execCaptureAttempt s = _
  rw [execCaptureAttempt, attempt, waiting]
  rfl

theorem attempting_over (attempt : s.capture.attempt = none) (n : Head) :
    (attempting rest n s).setAttempt none = withAttempts rest s := by
  rw [withAttempts, ← attempt]
  rfl

theorem triggerMet_iff (s : State) (n : Head) (p : Point) :
    s.triggerMet n p = true ↔ p.mode = .auto ∨ (s.headTime.get n).trigger ≠ none := by
  rw [State.triggerMet, Bool.or_eq_true, decide_eq_true_eq, Option.isSome_iff_ne_none]

/-- An attempt without its trigger, or deferred by its tests, makes nothing (R90, R91, R93). -/
theorem captureAttempt_nothing (attempt : s.capture.attempt = none) (waiting : s.capture.waiting = a :: rest)
    (h : ¬(a.point.mode = .auto ∨ (s.headTime.get a.head).trigger ≠ none) ∨
      s.captureTests a.point.bucket a.point.slot = .deferred) :
    exec .captureAttempt s = .next ((withAttempts rest s).endAttempt a) := by
  have ran : (attempting rest a.head s).runAttempt a = attempting rest a.head s := by
    have same : (attempting rest a.head s).captureTests a.point.bucket a.point.slot =
      s.captureTests a.point.bucket a.point.slot := rfl
    rw [State.runAttempt, same]
    by_cases met : (attempting rest a.head s).triggerMet a.head a.point = true
    · rw [h.resolve_left (not_not.2 ((triggerMet_iff _ _ _).1 met)), met]
      rfl
    · rw [Bool.not_eq_true] at met
      rw [met]
      rfl
  rw [captureAttempt_run attempt waiting, ran, attempting_over attempt]

/-- The work of an attempt whose trigger is met. -/
theorem runAttempt_met (met : a.point.mode = .auto ∨ (s.headTime.get a.head).trigger ≠ none) :
    (s.captureTests a.point.bucket a.point.slot = .deferred → s.runAttempt a = s) ∧
    (∀ full, s.captureTests a.point.bucket a.point.slot = .refused full → s.runAttempt a = s.refuseCapture a full) ∧
    (∀ room, s.captureTests a.point.bucket a.point.slot = .pass room → s.runAttempt a = s.updateAndMake a room) := by
  have trigger := (triggerMet_iff s a.head a.point).2 met
  refine ⟨fun tests => ?_, fun full tests => ?_, fun room tests => ?_⟩
  all_goals
    rw [State.runAttempt, trigger, tests]
    rfl

theorem raised_setAttempt (s : State) (k : Option Head) (kind : FaultKind) (detail : ℕ) (n : Option Head) :
    (Safety.raised s k kind detail).setAttempt n = Safety.raised (s.setAttempt n) k kind detail := by
  have faults : Safety.faultsOf (s.setAttempt n) k = Safety.faultsOf s k := by cases k <;> rfl
  rw [Safety.raised, Safety.raised, faults]
  split <;> cases k <;> rfl

/-- The settle queue of an attempt's head cleared and CAPTURE_REFUSED raised (R95). -/
def captureRefused (s : State) (a : Attempt) : State :=
  Safety.raised { s with settle := s.settle.set a.head ⟨[], none, none⟩ } (some a.head) .captureRefused a.handed.sample.index

theorem captureRefused_setAttempt (s : State) (a : Attempt) (n : Option Head) :
    (captureRefused s a).setAttempt n = captureRefused (s.setAttempt n) a := raised_setAttempt _ _ _ _ _

theorem refuseCapture_eq (s : State) (a : Attempt) (full : Bool) : s.refuseCapture a full =
    if full then Safety.raised (captureRefused s a) none .spillFull (headNumber a.head) else captureRefused s a := by
  simp only [State.refuseCapture, raise_eq_raised]
  rfl

/-- An attempt refused by its tests (R95). -/
theorem captureAttempt_refused (attempt : s.capture.attempt = none) (waiting : s.capture.waiting = a :: rest)
    (met : a.point.mode = .auto ∨ (s.headTime.get a.head).trigger ≠ none) :
    (s.captureTests a.point.bucket a.point.slot = .refused false →
      exec .captureAttempt s = .next ((captureRefused (withAttempts rest s) a).endAttempt a)) ∧
    (s.captureTests a.point.bucket a.point.slot = .refused true → exec .captureAttempt s = .next
      ((Safety.raised (captureRefused (withAttempts rest s) a) none .spillFull (headNumber a.head)).endAttempt a)) := by
  refine ⟨fun tests => ?_, fun tests => ?_⟩
  all_goals
    have ran := (runAttempt_met (s := attempting rest a.head s) met).2.1 _ tests
    rw [captureAttempt_run attempt waiting, ran, refuseCapture_eq]
  · rw [if_neg Bool.false_ne_true, captureRefused_setAttempt, attempting_over attempt]
  · rw [if_pos rfl, raised_setAttempt, captureRefused_setAttempt, attempting_over attempt]

end

/-- Settles O56: the end of an attempt, and the tests that defer or refuse it. -/
theorem attemptMakesNothing : Obligations.AttemptMakesNothing := by
  refine ⟨fun s a => ?_, fun s idle => captureAttempt_idle idle, fun s a rest attempt waiting => ?_⟩
  · have behind : (s.reportSample a.head a.handed).behind = s.behind := by simp
    rw [State.endAttempt, State.followBehind, State.setBehind, behind]
  · intro b sl begun nothing cleared refused triggered held queueRoom
    classical
    have tests := captureTests_eq s b sl
    refine ⟨fun not => captureAttempt_nothing attempt waiting (.inl not), fun met noNumber => ?_, fun met number inHand => ?_,
      fun met number free noRoom => ⟨fun full => ?_, fun some_ absent => ?_, fun some_ configured busy => ?_⟩⟩
    · rw [if_pos noNumber] at tests
      exact (captureAttempt_refused attempt waiting met).1 tests
    · rw [if_neg number, if_pos inHand] at tests
      exact captureAttempt_nothing attempt waiting (.inr tests)
    all_goals rw [if_neg number, if_neg free, if_neg noRoom] at tests
    · rw [if_pos full] at tests
      exact (captureAttempt_refused attempt waiting met).2 tests
    · rw [if_neg (Nat.not_le.2 some_), if_pos absent] at tests
      exact (captureAttempt_refused attempt waiting met).1 tests
    · rw [if_neg (Nat.not_le.2 some_), if_neg (by rw [configured]; decide), if_pos busy] at tests
      exact captureAttempt_nothing attempt waiting (.inr tests)

end Sys2Proof.Proofs
end

section
/-! PROOFS. Attempts whose tests pass: the room reserved, the capture update, and the capture made as one change. -/

namespace Sys2Proof.Proofs
open Sys2Proof Sys2Proof.Machine

/-! ### The report unit's room -/

theorem risen_reserved (r : Report) : (Safety.risen r).reserved = r.reserved := by
  simp only [Safety.risen]
  split <;> rfl

/-- The report unit with one more place reserved (R158, R162). -/
def roomTaken (r : Report) : Report := Safety.risen { r with reserved := r.reserved + 1 }

theorem reserve_eq (s : State) : s.reserve = { s with report := roomTaken s.report } := State.afterRise_eq _

theorem release_reserve (s : State) : s.reserve.release =
    { s with report := Safety.fallen { roomTaken s.report with reserved := s.report.reserved } } := by
  have back : (roomTaken s.report).reserved - 1 = s.report.reserved := by
    rw [roomTaken, risen_reserved]
    exact Nat.add_sub_cancel _ _
  rw [reserve_eq, State.release, State.afterFall_eq]
  dsimp only
  rw [back]

theorem enqueueReserved_reserve (s : State) (f : ReportFrame) :
    { s with report := roomTaken s.report }.enqueueReserved f = { s with
      report := { roomTaken s.report with queue := s.report.queue ++ [f], reserved := s.report.reserved }
      uplink := s.uplink.choose (s.report.queue ++ [f]) } := by
  have back : (roomTaken s.report).reserved - 1 = s.report.reserved := by
    rw [roomTaken, risen_reserved]
    exact Nat.add_sub_cancel _ _
  have queue : (roomTaken s.report).queue = s.report.queue := risen_queue _
  rw [State.enqueueReserved, State.kickUplink]
  dsimp only
  rw [back, queue]

/-! ### The capture update (R83) -/

theorem findPoint_of_record {l : Lookup} {k : CellKey} {c : CellRecord} {i : ℕ} (at_ : l.records[i]? = some (some c))
    (key : c.key = k) (only : ∀ j o, l.records[j]? = some (some o) → o.key = k → j = i) (b : ℕ) (sl : Slot) :
    l.findPoint k b sl = c.points.find? fun y => y.bucket = b && y.slot = sl := by
  have index : recordIndex k l.records = some i := recordIndex_of_first ⟨c, at_, key⟩
    fun j o lt at_' own => lt.ne (only j o at_' own)
  rw [Lookup.findPoint, Lookup.find, index, Option.bind_some, recordAt, List.getD_eq_getElem?_getD, at_]
  rfl

theorem findPoint_of_absent {l : Lookup} {k : CellKey} (absent : ∀ c : CellRecord, some c ∈ l.records → c.key ≠ k) (b : ℕ)
    (sl : Slot) : l.findPoint k b sl = none := by
  have index : recordIndex k l.records = none := List.findIdx?_eq_none_iff.2 fun o mem => by
    cases o with
    | none => rfl
    | some c => simpa using absent c mem
  rw [Lookup.findPoint, Lookup.find, index]
  rfl

/-- An attempt whose tests have passed, by the point the capture update finds (R93, R96). -/
theorem updateAndMake_cases {s : State} {a : Attempt} {number : ℕ} (next : s.capture.nextNumber = some number) (room : Room) :
    (∀ y, s.lookup.findPoint (attemptKey a) a.point.bucket a.point.slot = some y → y.state = .open →
      s.updateAndMake a room = (s.reserveRoom room).makeCapture a room number (s.settle.get a.head)) ∧
    (∀ y, s.lookup.findPoint (attemptKey a) a.point.bucket a.point.slot = some y → y.state ≠ .open →
      s.updateAndMake a room = ((s.reserveRoom room).releaseRoom room).clearSettle a.head) ∧
    (s.lookup.findPoint (attemptKey a) a.point.bucket a.point.slot = none →
      s.updateAndMake a room = (s.reserveRoom room).releaseRoom room) := by
  have capture : (s.reserveRoom room).capture = s.capture := by cases room <;> simp [State.reserveRoom]
  have lookup : (s.reserveRoom room).lookup = s.lookup := by cases room <;> simp [State.reserveRoom]
  refine ⟨fun y found is => ?_, fun y found not => ?_, fun none_ => ?_⟩
  · simp only [State.updateAndMake, capture, lookup, next, Lookup.updateAnswer, found, if_pos is]
  · simp only [State.updateAndMake, capture, lookup, next, Lookup.updateAnswer, found, if_neg not]
  · simp only [State.updateAndMake, capture, lookup, next, Lookup.updateAnswer, none_]

/-! ### A capture made (R96) -/

/-- The bytes of a Capture payload, field by field (R97, R155). -/
theorem captureBytes_eq (s : State) (a : Attempt) (number : ℕ) : captureBytes s a number (s.settle.get a.head) =
    let p := a.point
    let q := s.settle.get a.head
    let mean := meanPosition ((q.entries.drop (q.entries.length - p.settle)).map SettleEntry.pos)
    let axis (m c : Int) : Int := max (-32767) (min 32767 (m - c))
    natLE 4 number ++ [byteOf (headNumber a.head), byteOf p.slot.code] ++ natLE 2 p.id ++
      natLE 2 p.bucket ++ natLE 2 a.handed.sample.index ++ timestampField a.handed.sample.timestamp ++
      [byteOf s.time.quality.code, byteOf p.settle] ++ intLE 4 mean.x ++ intLE 4 mean.y ++ intLE 4 mean.z ++
      intLE 2 (axis mean.x p.nominal.x) ++ intLE 2 (axis mean.y p.nominal.y) ++ intLE 2 (axis mean.z p.nominal.z) ++
      natLE 2 (q.poseGen.getD 0) := by
  simp only [captureBytes, capturePayload, vecLE, clampDeviation, deviation, SettleQueue.newest,
    clampInt_eq (show (-32767 : Int) ≤ 32767 by decide), List.append_assoc]

theorem timestampField_length (t : Int) : (timestampField t).length = 8 := by
  unfold timestampField
  split <;> simp

theorem timestampField_natCast (ticks : ℕ) : timestampField ticks = natLE 8 ticks :=
  if_neg (Int.not_lt.2 (Int.natCast_nonneg ticks))

theorem captureBytes_length (s : State) (a : Attempt) (number : ℕ) (q : SettleQueue) :
    (captureBytes s a number q).length = 42 := by
  simp [captureBytes, capturePayload, vecLE, timestampField_length]

theorem applyUpdate_eq (l : Lookup) (k : CellKey) (b : ℕ) (sl : Slot) (head number : ℕ) :
    l.applyUpdate k b sl head number = { l with records := l.records.map fun r => r.map fun r => if r.key = k then
      { r with points := r.points.map fun y => if y.bucket = b ∧ y.slot = sl then
        { y with state := .captured, capHead := head, capNumber := number } else y } else r } := by
  unfold Lookup.applyUpdate Lookup.mapKey
  congr 1
  refine List.map_congr_left fun r _ => ?_
  cases r with
  | none => rfl
  | some r =>
    simp only [Option.bind_some, Option.map_some, Bool.and_eq_true, decide_eq_true_eq]
    split <;> rfl

theorem numberAfter_eq (k : ℕ) : numberAfter k = if k < 4294967295 then some (k + 1) else none := by
  by_cases below : k < 4294967295
  · rw [numberAfter, if_neg (Nat.not_le.2 below), if_pos below]
  · rw [numberAfter, if_pos (Nat.not_lt.1 below), if_neg below]

theorem queueCaptured_eq (q : List WbEntry) (b : ℕ) (sl : Slot) (head number : ℕ) : queueCaptured q b sl head number =
    if (q.any fun e => e.bucket = b && e.slot = sl && e.phase = .waiting) = true then q.map fun e =>
      if e.bucket = b ∧ e.slot = sl ∧ e.phase = .waiting then
        { e with enabled := true, captured := true, capHead := head, capNumber := number } else e
    else q ++ [⟨b, sl, true, true, head, number, .waiting⟩] := by
  simp only [queueCaptured, Bool.and_eq_true, decide_eq_true_eq, and_assoc]
  rfl

/-! ### An attempt that passes its tests -/

section
variable {s : State} {a : Attempt} {rest : List Attempt} {number : ℕ}

theorem captureAttempt_pass (attempt : s.capture.attempt = none) (waiting : s.capture.waiting = a :: rest)
    (met : a.point.mode = .auto ∨ (s.headTime.get a.head).trigger ≠ none) {room : Room}
    (tests : s.captureTests a.point.bucket a.point.slot = .pass room) : exec .captureAttempt s =
      .next ((((attempting rest a.head s).updateAndMake a room).setAttempt none).endAttempt a) := by
  rw [captureAttempt_run attempt waiting, (runAttempt_met (s := attempting rest a.head s) met).2.2 room tests]

/-- The record in the report queue, at the place reserved for it. -/
def recordQueued (s : State) (a : Attempt) (number : ℕ) (payload : List Byte) : State := { captured s a number with
  report := { roomTaken s.report with queue := s.report.queue ++ [⟨.capture, payload⟩], reserved := s.report.reserved }
  uplink := s.uplink.choose (s.report.queue ++ [⟨.capture, payload⟩]) }

/-- The record at the ring's write position, its spill write requested. -/
def recordSpilled (s : State) (a : Attempt) (number : ℕ) (payload : List Byte) : State := { captured s a number with
  spill := { s.spill with
    writePos := (s.spill.writePos + 1) % 512, count := s.spill.count + 1
    writes := s.spill.writes ++ [⟨s.spill.writePos, payload⟩] }
  mem := { s.mem with spillQueue := s.mem.spillQueue ++ [.write s.spill.writePos] } }

theorem made_queued (attempt : s.capture.attempt = none) : (((attempting rest a.head s).reserveRoom .queue).makeCapture a .queue
      number (s.settle.get a.head)).setAttempt none =
    recordQueued (withAttempts rest s) a number (captureBytes s a number (s.settle.get a.head)) := by
  have placed := enqueueReserved_reserve (captured (attempting rest a.head s) a number)
    ⟨.capture, captureBytes s a number (s.settle.get a.head)⟩
  have made : ((attempting rest a.head s).reserveRoom .queue).makeCapture a .queue number (s.settle.get a.head) =
      { captured (attempting rest a.head s) a number with report := roomTaken s.report }.enqueueReserved
        ⟨.capture, captureBytes s a number (s.settle.get a.head)⟩ := by
    rw [State.reserveRoom, reserve_eq, makeCapture_eq]
    rfl
  refine (congrArg (State.setAttempt · none) (made.trans placed)).trans ?_
  rw [recordQueued, ← attempting_over attempt a.head]
  rfl

theorem made_spilled (attempt : s.capture.attempt = none) : (((attempting rest a.head s).reserveRoom .ring).makeCapture a .ring
      number (s.settle.get a.head)).setAttempt none =
    recordSpilled (withAttempts rest s) a number (captureBytes s a number (s.settle.get a.head)) := by
  rw [State.reserveRoom, makeCapture_eq, ← attempting_over attempt a.head]
  rfl

/-- The room of an attempt that makes nothing, released. -/
theorem released_queue (attempt : s.capture.attempt = none) :
    (((attempting rest a.head s).reserveRoom .queue).releaseRoom .queue).setAttempt none = { withAttempts rest s with
      report := Safety.fallen { roomTaken s.report with reserved := s.report.reserved } } := by
  rw [State.reserveRoom, State.releaseRoom, release_reserve, ← attempting_over attempt a.head]
  rfl

theorem clearSettle_setAttempt (s : State) (n : Head) (k : Option Head) :
    (s.clearSettle n).setAttempt k = (s.setAttempt k).clearSettle n := rfl

theorem captured_eq (s : State) (a : Attempt) (number : ℕ) : captured s a number = { s with
    settle := s.settle.set a.head ⟨[], none, none⟩
    headTime := s.headTime.set a.head { s.headTime.get a.head with trigger := none }
    lookup := { s.lookup with records := s.lookup.records.map fun r => r.map fun r => if r.key = attemptKey a then
      { r with points := r.points.map fun y => if y.bucket = a.point.bucket ∧ y.slot = a.point.slot then
        { y with state := .captured, capHead := headNumber a.head, capNumber := number } else y } else r }
    capture := { s.capture with
      nextNumber := if number < 4294967295 then some (number + 1) else none
      writeback := if (s.capture.writeback.any fun e => e.bucket = a.point.bucket && e.slot = a.point.slot &&
          e.phase = .waiting) = true then s.capture.writeback.map fun e =>
          if e.bucket = a.point.bucket ∧ e.slot = a.point.slot ∧ e.phase = .waiting then
            { e with enabled := true, captured := true, capHead := headNumber a.head, capNumber := number } else e
        else s.capture.writeback ++ [⟨a.point.bucket, a.point.slot, true, true, headNumber a.head, number, .waiting⟩] } } := by
  rw [captured, applyUpdate_eq, numberAfter_eq, queueCaptured_eq]
  rfl

end

/-- Settles O57: the room the tests find, and what the capture update makes of it. -/
theorem attemptMakesCapture : Obligations.AttemptMakesCapture := by
  intro s a rest number attempt waiting next met n p l q key room point begun taken released ended empty mean axis time payload
    waits made held
  classical
  have tests : room = _ := captureTests_eq s p.bucket p.slot
  rw [if_neg (by rw [next]; exact Option.some_ne_none number)] at tests
  have bytes : captureBytes s a number (s.settle.get a.head) = payload := captureBytes_eq s a number
  have found {x : Option Point} (is : point x) : (attempting rest n s).lookup.findPoint (attemptKey a) p.bucket p.slot = x := by
    rcases is with ⟨c, i, at_, own, only, is⟩ | ⟨absent, rfl⟩
    · exact (findPoint_of_record at_ own only p.bucket p.slot).trans is
    · exact findPoint_of_absent absent p.bucket p.slot
  have isMade : captured (withAttempts rest s) a number = made := captured_eq _ _ _
  have passes {r : Room} (is : room = .pass r) := captureAttempt_pass attempt waiting met is
  have update (r : Room) := updateAndMake_cases (s := attempting rest n s) (a := a) next r
  refine ⟨fun waits => ?_, fun free none_ room_ => ?_, fun free no some_ configured few => ?_, ?_, fun ticks is => ?_,
    fun is => ⟨fun y at_ open_ => ?_, fun y at_ not => ?_, fun at_ => ?_⟩,
    fun is => ⟨fun y at_ open_ => ?_, fun y at_ not => ?_, fun at_ => ?_⟩, fun is => ?_⟩
  · rw [tests, if_pos waits]
  · rw [tests, if_neg free, if_pos ⟨none_, room_⟩]
  · rw [tests, if_neg free, if_neg (by omega), if_neg (Nat.not_le.2 some_), if_neg (by rw [configured]; decide),
      if_neg (Nat.not_le.2 few)]
  · rw [← bytes]
    exact captureBytes_length s a number _
  · exact (congrArg timestampField is).trans (timestampField_natCast ticks)
  · refine (passes is).trans (congrArg (fun b : State => Host.Outcome.next (b.endAttempt a)) ?_)
    rw [(update .queue).1 y (found at_) open_]
    refine (made_queued attempt).trans ?_
    rw [recordQueued, bytes, isMade]
    rfl
  · refine (passes is).trans (congrArg (fun b : State => Host.Outcome.next (b.endAttempt a)) ?_)
    rw [(update .queue).2.1 y (found at_) not, clearSettle_setAttempt, released_queue attempt]
    rfl
  · refine (passes is).trans (congrArg (fun b : State => Host.Outcome.next (b.endAttempt a)) ?_)
    rw [(update .queue).2.2 (found at_)]
    exact released_queue attempt
  · refine (passes is).trans (congrArg (fun b : State => Host.Outcome.next (b.endAttempt a)) ?_)
    rw [(update .ring).1 y (found at_) open_]
    refine (made_spilled attempt).trans ?_
    rw [recordSpilled, bytes, isMade]
    rfl
  · refine (passes is).trans (congrArg (fun b : State => Host.Outcome.next (b.endAttempt a)) ?_)
    rw [(update .ring).2.1 y (found at_) not, clearSettle_setAttempt]
    exact congrArg (State.clearSettle · n) (attempting_over attempt n)
  · refine (passes is).trans (congrArg (fun b : State => Host.Outcome.next (b.endAttempt a)) ?_)
    rw [(update .ring).2.2 (found at_)]
    exact attempting_over attempt n
  · have free : ¬held := fun waits => by
      rw [tests, if_pos waits] at is
      exact is.elim nofun nofun
    rw [if_neg free] at tests
    by_cases queue : s.spill.count = 0 ∧ s.report.occupancy < 48
    · exact .inl ⟨queue.1, queue.2, tests.trans (if_pos queue)⟩
    · rw [if_neg queue] at tests
      have some_ : ¬512 ≤ s.spill.count := fun full => by
        rw [tests, if_pos full] at is
        exact is.elim nofun nofun
      rw [if_neg some_] at tests
      have configured : s.spill.configured ≠ false := fun absent => by
        rw [tests, if_pos absent] at is
        exact is.elim nofun nofun
      rw [if_neg configured] at tests
      have few : ¬4 ≤ s.spill.writes.length := fun busy => by
        rw [tests, if_pos busy] at is
        exact is.elim nofun nofun
      rw [if_neg few] at tests
      exact .inr ⟨by omega, Nat.not_le.1 some_, Bool.eq_true_of_not_eq_false configured, Nat.not_le.1 few, tests⟩

end Sys2Proof.Proofs
end

section
/-! PROOFS. The time base's own steps: epochs, pulses, trigger edges and the reference. -/

namespace Sys2Proof.Proofs
open Sys2Proof Sys2Proof.Machine

/-! ### Epochs, pulses and trigger edges -/

theorem syncEpoch_waits {s : State} (h : s.time.timebase < s.time.nextEpoch) : exec .syncEpoch s = .next s :=
  congrArg Host.Outcome.next (if_neg (mt of_decide_eq_true (Nat.not_le.2 h)))

theorem syncEpoch_due {s : State} (h : s.time.nextEpoch ≤ s.time.timebase) : exec .syncEpoch s = .next s.beginEpoch :=
  congrArg Host.Outcome.next (if_pos (decide_eq_true h))

theorem syncPulseEnd_cases (s : State) (n : Head) :
    (∀ t, (s.headTime.get n).pulseEnd = some t → t ≤ s.time.timebase → exec (.syncPulseEnd n) s = .next { s with
      headTime := s.headTime.set n { s.headTime.get n with pulseEnd := none } }) ∧
    ((∀ t, (s.headTime.get n).pulseEnd = some t → s.time.timebase < t) → exec (.syncPulseEnd n) s = .next s) := by
  have over_iff : s.pulseOver n = true ↔ ∃ t, (s.headTime.get n).pulseEnd = some t ∧ t ≤ s.time.timebase := by
    simp [State.pulseOver, Option.any_eq_true]
  refine ⟨fun t ends past => congrArg Host.Outcome.next (if_pos (over_iff.2 ⟨t, ends, past⟩)), fun never => ?_⟩
  exact congrArg Host.Outcome.next (if_neg fun is => (over_iff.1 is).elim fun t h => Nat.not_le.2 (never t h.1) h.2)

theorem triggerEdge_cases (s : State) (n : Head) :
    let taken := (s.service = .active ∨ s.service = .hold) ∧ (s.ctx.get n).state ≠ .disabled
    (¬taken → exec (.triggerEdge n) s = .next s) ∧
    (taken → (s.headTime.get n).trigger = none → exec (.triggerEdge n) s = .next { s with
      headTime := s.headTime.set n { s.headTime.get n with
        trigger := some ⟨s.time.timebase, s.time.syncIndex, (s.headTime.get n).window⟩ } }) ∧
    (taken → (s.headTime.get n).trigger ≠ none → exec (.triggerEdge n) s =
      .next (Safety.raised s (some n) .triggerOverrun s.time.syncIndex)) := by
  intro taken
  have taken_iff : s.edgeTaken n = true ↔ taken := by simp [State.edgeTaken, taken]
  refine ⟨fun not => congrArg Host.Outcome.next (if_neg (mt taken_iff.1 not)), fun is idle => ?_, fun is pending => ?_⟩
  all_goals
    refine (congrArg Host.Outcome.next (if_pos (taken_iff.2 is)) : exec (.triggerEdge n) s = _).trans ?_
  · simp only [State.takeEdge, idle]
    rfl
  · obtain ⟨r, pending⟩ := Option.ne_none_iff_exists'.1 pending
    simp only [State.takeEdge, pending, raise_eq_raised]

/-! ### The reference (R110 to R112) -/

/-- A state with a new time base, judged by its time quality (R112). -/
def judgedTime (s : State) (t : TimeBase) : State :=
  if t.quality = s.time.quality then { s with time := t } else { s with
    time := t, report := Safety.withEvent s.report none (.timeQuality s.time.quality t.quality s.time.timebase) }

/-- The last edge is no part of the time quality. -/
theorem setTime_eq (s : State) (e : Option ℕ) {t : TimeBase} (now : t.timebase = s.time.timebase) :
    { s with time := { s.time with lastEdge := e } }.setTime t = judgedTime s t := by
  have quality : { s.time with lastEdge := e }.quality = s.time.quality := rfl
  simp only [State.setTime, judgedTime, quality, qualityEvent, now, placeEvent_eq]

/-- The reference lost, from LOCKED and otherwise (R111; log 34). -/
theorem loseReference_cases (s : State) (e : Option ℕ) :
    let lost : TimeBase := { s.time.referenceLost with lastEdge := e }
    let s' : State := { s with time := { s.time with lastEdge := e } }
    (s.time.refState ≠ .locked → s'.loseReference = judgedTime s lost) ∧
    (s.time.refState = .locked → Safety.RaisedWith { s with time := lost } none .refLost s.time.timebase
      (.timeQuality .locked .holdover s.time.timebase) s'.loseReference) := by
  intro lost s'
  have isLost : s'.time.referenceLost = lost := by
    simp only [TimeBase.referenceLost, s', lost]
    cases s.time.refState <;> rfl
  have now : lost.timebase = s.time.timebase := by
    simp only [TimeBase.referenceLost, lost]
    cases s.time.refState <;> rfl
  refine ⟨fun other => ?_, fun locked => ?_⟩
  · have run : s'.loseReference = s'.setTime s'.time.referenceLost := if_neg other
    rw [run, isLost]
    exact setTime_eq s e now
  · have run : s'.loseReference = { s' with time := s'.time.referenceLost }.raiseWith none .refLost s.time.timebase
        (qualityEvent s'.time s'.time.referenceLost) := if_pos locked
    have event : qualityEvent s'.time lost = .timeQuality .locked .holdover s.time.timebase := by
      simp [qualityEvent, TimeBase.quality, TimeBase.referenceLost, s', lost, locked]
    rw [run, isLost, event]
    exact raiseWith_raisedWith _ _ _ _ _

theorem goodInterval_iff (d : ℕ) : goodInterval d = true ↔ 9 ≤ d ∧ d ≤ 11 := by simp [goodInterval]

theorem referenceEdge_eq {s : State} {e : ℕ} (last : s.time.lastEdge = some e) : exec .referenceEdge s = .next
    (if goodInterval (s.time.timebase - e) then
      if s.time.present then { s with time := { s.time with lastEdge := some s.time.timebase } }
      else judgedTime s { s.time.referenceGood with lastEdge := some s.time.timebase }
    else if s.time.present then { s with time := { s.time with lastEdge := some s.time.timebase } }.loseReference
    else { s with time := { s.time with lastEdge := some s.time.timebase } }) := by
  have good : { s.time with lastEdge := some s.time.timebase }.referenceGood =
      { s.time.referenceGood with lastEdge := some s.time.timebase } := by
    simp only [TimeBase.referenceGood]
    cases s.time.refState <;> rfl
  have now : { s.time.referenceGood with lastEdge := some s.time.timebase }.timebase = s.time.timebase := by
    simp only [TimeBase.referenceGood]
    cases s.time.refState <;> rfl
  rw [← setTime_eq s (some s.time.timebase) now, ← good]
  show Host.Outcome.next s.referenceEdge = _
  simp only [State.referenceEdge, last]

theorem referenceGood_eq (t : TimeBase) : t.referenceGood = { t with
    present := true
    refState := if t.refState = .free ∨ t.refState = .holdover then .acquiring else t.refState
    lockUp := if t.refState = .free ∨ t.refState = .holdover then 0 else t.lockUp } := by
  unfold TimeBase.referenceGood
  cases t.refState <;> simp

/-- The reference state once the reference is lost. -/
def lostState (r : RefState) (onceLocked : Bool) : RefState :=
  match r with
  | .acquiring => if onceLocked then .holdover else .free
  | .locked => .holdover
  | r => r

theorem referenceLost_eq (t : TimeBase) : t.referenceLost = { t with
    present := false
    refState := lostState t.refState t.onceLocked
    lockUp := if t.refState = .acquiring then 0 else t.lockUp } := by
  unfold TimeBase.referenceLost
  cases t.refState <;> simp [lostState]

theorem timeoutDue_iff {s : State} {e : ℕ} (last : s.time.lastEdge = some e) :
    s.timeoutDue = true ↔ s.time.present = true ∧ e + 12 ≤ s.time.timebase := by
  simp [State.timeoutDue, last]

theorem lockUpDue_iff (s : State) : s.lockUpDue = true ↔ s.time.refState = .acquiring ∧ 1048576 ≤ s.time.lockUp := by
  rw [State.lockUpDue, Bool.and_eq_true, decide_eq_true_eq, decide_eq_true_eq]

/-- Settles O58: each step where it is due, and where it is not. -/
theorem timeBaseSteps : Obligations.TimeBaseSteps := by
  intro s now pend period epoch judged good lost loses
  have isLost : s.time.referenceLost = lost := by
    rw [referenceLost_eq]
    dsimp only [lost]
    cases s.time.refState <;> rfl
  have loses_of {c : Instr} {e : Option ℕ}
      (run : exec c s = .next { s with time := { s.time with lastEdge := e } }.loseReference) : loses e c := by
    obtain ⟨other, locked⟩ := loseReference_cases s e
    rw [isLost] at other locked
    exact ⟨fun not => run.trans (congrArg _ (other not)), fun is => ⟨_, run, locked is⟩⟩
  refine ⟨syncEpoch_waits, fun due => (syncEpoch_due due).trans rfl, fun n => ⟨(syncPulseEnd_cases s n).1,
    (syncPulseEnd_cases s n).2, triggerEdge_cases s n⟩, fun first => ?_, fun e last => ?_, ?_⟩
  · show Host.Outcome.next s.referenceEdge = _
    rw [State.referenceEdge, first]
  · intro isGood
    have run := referenceEdge_eq last
    have good_iff := goodInterval_iff (s.time.timebase - e)
    refine ⟨fun is absent => ?_, fun same => ?_, fun not present => ?_, fun present past => ?_, fun no => ?_⟩
    · rw [if_pos (good_iff.2 is), if_neg (by rw [absent]; decide), referenceGood_eq] at run
      exact run
    · by_cases is : isGood
      · rw [if_pos (good_iff.2 is), if_pos (same.1 is)] at run
        exact run
      · rw [if_neg (mt good_iff.1 is), if_neg (mt same.2 is)] at run
        exact run
    · rw [if_neg (mt good_iff.1 not), if_pos present] at run
      exact loses_of run
    · exact loses_of (congrArg Host.Outcome.next (if_pos ((timeoutDue_iff last).2 ⟨present, past⟩)))
    · refine congrArg Host.Outcome.next (if_neg fun due => ?_)
      obtain ⟨present, past⟩ := (timeoutDue_iff last).1 due
      exact no.elim (fun absent => by rw [absent] at present; cases present) (Nat.not_lt.2 past)
  · intro reached
    refine ⟨fun is => ?_, fun not => congrArg Host.Outcome.next (if_neg (mt (lockUpDue_iff s).1 not))⟩
    refine (congrArg Host.Outcome.next (if_pos ((lockUpDue_iff s).2 is)) : exec .lockUpComplete s = _).trans (congrArg _ ?_)
    exact setTime_eq s s.time.lastEdge rfl

end Sys2Proof.Proofs
end

section
/-! PROOFS. A head's sync expiry: the time base's part, the silence test, and the work of the context's state. -/

namespace Sys2Proof.Proofs
open Sys2Proof Sys2Proof.Machine

/-! ### The rows that take an expiry -/

/-- The context is in a state in which silence is not counted (R34). -/
def Asleep (c : Context) : Prop := c.state = .offline ∨ c.state = .disabled ∨ c.state = .parked

theorem silenceTrips_iff (c : Context) (t : TrackSettings) [Decidable (Asleep c)] : c.silenceTrips t = true ↔
    ¬Asleep c ∧ t.silenceLimit ≤ if Asleep c ∨ c.heard = true then 0 else c.silence + 1 := by
  unfold Context.silenceTrips
  cases state : c.state <;> simp [Asleep, state]

theorem updateSilence_eq (c : Context) [Decidable (Asleep c)] : c.updateSilence =
    { c with silence := if Asleep c ∨ c.heard = true then 0 else c.silence + 1, heard := false } := by
  unfold Context.updateSilence
  cases state : c.state <;> simp [Asleep, state]

section
variable {s : State} {n : Head} {e : DueExpiry}

theorem expireIf_due (due : (s.headTime.get n).expiry = some e) (past : e.time ≤ s.time.timebase) (p : Bool) :
    s.expireIf n p = if p then s.takeExpiry n e else s := by
  have found : s.expiryDue n = some e := by simp [State.expiryDue, due, past]
  rw [State.expireIf, found]

theorem expireIf_waits (h : ∀ e, (s.headTime.get n).expiry = some e → s.time.timebase < e.time) (p : Bool) :
    s.expireIf n p = s := by
  have none_ : s.expiryDue n = none := Option.filter_eq_none_iff.2 fun e is => by simpa using h e is
  rw [State.expireIf, none_]

end

/-- A row of an expiry has its outcome's name, or names the expiry as a whole (log 11). -/
def ExpiryNamed (s : State) (n : Head) (x : Instr) : Prop :=
  x = .syncExpiry n ∨ (x = .triggerExpired n ∧ s.triggerRunsOut n = true) ∨ (x = .silenceLimit n ∧ s.silent n = true) ∨
    (x = .coastLimit n ∧ s.runsOutIn n .coasting = true) ∨ (x = .searchDwellEnd n ∧ s.runsOutIn n .searching = true) ∨
    (x = .settleExpiry n ∧ s.runsOutIn n .settling = true)

theorem expiryRow_run (s : State) {n : Head} {x : Instr} (row : x ∈ [Instr.syncExpiry n, .silenceLimit n, .coastLimit n,
    .searchDwellEnd n, .settleExpiry n, .triggerExpired n]) :
    ∃ p : Bool, exec x s = .next (s.expireIf n p) ∧ (p = true ↔ ExpiryNamed s n x) := by
  simp only [List.mem_cons, List.not_mem_nil, or_false] at row
  rcases row with rfl | rfl | rfl | rfl | rfl | rfl
  · exact ⟨true, rfl, by simp [ExpiryNamed]⟩
  · exact ⟨s.silent n, rfl, by simp [ExpiryNamed]⟩
  · exact ⟨s.runsOutIn n .coasting, rfl, by simp [ExpiryNamed]⟩
  · exact ⟨s.runsOutIn n .searching, rfl, by simp [ExpiryNamed]⟩
  · exact ⟨s.runsOutIn n .settling, rfl, by simp [ExpiryNamed]⟩
  · exact ⟨s.triggerRunsOut n, rfl, by simp [ExpiryNamed]⟩

theorem expiryNamed_row {s : State} {n : Head} {x : Instr} (named : ExpiryNamed s n x) : x ∈ [Instr.syncExpiry n, .silenceLimit n,
    .coastLimit n, .searchDwellEnd n, .settleExpiry n, .triggerExpired n] := by
  rcases named with rfl | ⟨rfl, -⟩ | ⟨rfl, -⟩ | ⟨rfl, -⟩ | ⟨rfl, -⟩ | ⟨rfl, -⟩ <;> simp

theorem triggerRunsOut_iff (s : State) (n : Head) : s.triggerRunsOut n = true ↔
    ∃ r, (s.headTime.get n).trigger = some r ∧ r.periodsLeft ≤ 1 := by
  simp [State.triggerRunsOut, Option.any_eq_true]

theorem runsOutIn_iff (s : State) (n : Head) (st : CtxState) : s.runsOutIn n st = true ↔
    ¬s.silent n = true ∧ (s.ctx.get n).timer ≤ 1 ∧ (s.ctx.get n).state = st := by
  simp only [State.runsOutIn, Context.runsOut, Bool.and_eq_true, decide_eq_true_eq, Bool.not_eq_true', Bool.not_eq_true]
  tauto

theorem expiryNamed_iff {s : State} {n : Head} {ends silent : Prop} (ends_iff : s.triggerRunsOut n = true ↔ ends)
    (silent_iff : s.silent n = true ↔ silent) (x : Instr) : ExpiryNamed s n x ↔
    x = .syncExpiry n ∨ (x = .triggerExpired n ∧ ends) ∨ (x = .silenceLimit n ∧ silent) ∨
      (¬silent ∧ (s.ctx.get n).timer ≤ 1 ∧ (x = .coastLimit n ∧ (s.ctx.get n).state = .coasting ∨
        x = .searchDwellEnd n ∧ (s.ctx.get n).state = .searching ∨ x = .settleExpiry n ∧ (s.ctx.get n).state = .settling)) := by
  simp only [ExpiryNamed, runsOutIn_iff, ends_iff, silent_iff]
  tauto

/-! ### The tracking unit's work (R34, R42) -/

section
variable {s : State} {n : Head} {i : ℕ}

theorem trackExpiry_silent (h : (s.ctx.get n).silenceTrips (s.settings.get n) = true) : s.trackExpiry n i =
    s.changeStateWithFault n (s.ctx.get n).updateSilence.enterSilence .offline .silence .linkSilent i := if_pos h

variable (h : ¬(s.ctx.get n).silenceTrips (s.settings.get n) = true)
include h

theorem trackExpiry_coasting (state : (s.ctx.get n).state = .coasting) :
    s.trackExpiry n i = s.coastExpiry n (s.ctx.get n).updateSilence i := by
  simp only [State.trackExpiry, if_neg h, state]

theorem trackExpiry_searching (state : (s.ctx.get n).state = .searching) :
    s.trackExpiry n i = s.searchExpiry n (s.ctx.get n).updateSilence i := by
  simp only [State.trackExpiry, if_neg h, state]

theorem trackExpiry_settling (state : (s.ctx.get n).state = .settling) :
    s.trackExpiry n i = s.settleExpiryWork n (s.ctx.get n).updateSilence i := by
  simp only [State.trackExpiry, if_neg h, state]

theorem trackExpiry_quiet (coasting : (s.ctx.get n).state ≠ .coasting) (searching : (s.ctx.get n).state ≠ .searching)
    (settling : (s.ctx.get n).state ≠ .settling) : s.trackExpiry n i = s.setCtx n (s.ctx.get n).updateSilence := by
  simp only [State.trackExpiry, if_neg h]
  cases state : (s.ctx.get n).state with
  | coasting => exact absurd state coasting
  | searching => exact absurd state searching
  | settling => exact absurd state settling
  | _ => rfl

end

/-! ### Steered positions -/

/-- A context placed, with a Steer frame that carries the index of the latest expiry (R54). -/
def ctxSteered (s : State) (n : Head) (c : Context) (payload : List Byte) : State :=
  { s with ctx := s.ctx.set n c, ports := s.ports.set n (Safety.withSteer n (s.ports.get n) payload) }

/-- The Steer payload of a search position (R47, R54). -/
def searchPayload (i : ℕ) (q : SearchRecord) : List Byte := Safety.aim i 1 (if q.ring = 0 then 3 else 2) q.angles.1 q.angles.2

section
variable {s : State} {n : Head} {i : ℕ} (latest : latestIndex (s.headTime.get n) = some i)
include latest

theorem setCtx_steer (c : Context) (mode : SteerMode) (reason : SteerReason) (az el : Int) :
    (s.setCtx n c).steer n mode reason az el = ctxSteered s n c (steerPayload i mode reason az el) :=
  steer_of_index (s := s.setCtx n c) latest mode reason az el

theorem setCtx_steerSearch (c : Context) (q : SearchRecord) :
    (s.setCtx n c).steerSearch n q = ctxSteered s n c (searchPayload i q) := by
  have reason : steerReasonCode q.reason = if q.ring = 0 then 3 else 2 := by
    unfold SearchRecord.reason
    split <;> rfl
  rw [State.steerSearch, setCtx_steer latest, steerPayload, searchPayload, reason]
  rfl

theorem startSearch_steered (c : Context) (az el : Int) (cause : StateCause) :
    let q := startRecord (s.settings.get n) az el false
    s.startSearch n c az el false cause = Safety.changed s n { c with state := .searching, search := some q, timer := q.dwell }
      cause (some (searchPayload i q)) := by
  intro q
  have steered := steer_of_index (s := s.changeState n { c with search := some q, timer := q.dwell } .searching cause) latest
    .point q.reason q.angles.1 q.angles.2
  refine Eq.trans steered ?_
  rw [changeState_eq]
  rfl

/-- COASTING at an expiry: a COAST frame at the prediction, or the search around it (R43, R44). -/
theorem coastExpiry_cases {c : Context} {l : LockedSample} (newest : c.newest = some l) {gap : ℕ}
    (isGap : (gap : Int) = ((i : Int) - l.index) % 65536) :
    let az := (l.az + c.velAz * gap) % 16777216
    let el := max (-4194304) (min 4194304 (l.el + c.velEl * gap))
    (¬c.timer ≤ 1 → s.coastExpiry n c i = ctxSteered s n { c with predicted := some (az, el), timer := c.timer - 1 }
      (Safety.aim i 1 1 az el)) ∧
    (c.timer ≤ 1 →
      let q := startRecord (s.settings.get n) az el false
      s.coastExpiry n c i = Safety.changed s n
        { c with state := .searching, predicted := some (az, el), search := some q, timer := q.dwell } .coastLimit
        (some (searchPayload i q))) := by
  intro az el
  have gap_eq : ((indexGap i l.index : ℕ) : Int) = gap := by
    rw [isGap]
    exact Int.toNat_of_nonneg (Int.emod_nonneg _ (by decide))
  have elevation : clampElevation (l.el + c.velEl * gap) = el := clampInt_eq (by decide) _
  have predicts : c.predict i = some (az, el) := by
    simp only [Context.predict, newest, Option.map_some, gap_eq, elevation]
    rfl
  refine ⟨fun more => ?_, fun out => ?_⟩
  · have runs : ¬c.runsOut = true := by simpa [Context.runsOut] using more
    simp only [State.coastExpiry, predicts, if_neg runs]
    rw [setCtx_steer latest]
    rfl
  · intro q
    have runs : c.runsOut = true := decide_eq_true out
    simp only [State.coastExpiry, predicts, if_pos runs]
    rw [startSearch_steered latest]

/-- SEARCHING at an expiry: the position again, the next one, or the end of the search (R47). -/
theorem searchExpiry_cases {c : Context} {q : SearchRecord} (search : c.search = some q) :
    (¬c.timer ≤ 1 → s.searchExpiry n c i = ctxSteered s n { c with timer := c.timer - 1 } (searchPayload i q)) ∧
    (c.timer ≤ 1 → ∀ q', q.next = some q' →
      s.searchExpiry n c i = ctxSteered s n { c with search := some q', timer := q.dwell } (searchPayload i q')) ∧
    (c.timer ≤ 1 → q.next = none → s.searchExpiry n c i =
      s.changeStateWithFault n { c with search := none, timer := 0 } .lost .searchExhausted .searchExhausted i) := by
  refine ⟨fun more => ?_, fun out q' next => ?_, fun out next => ?_⟩
  · have runs : ¬c.runsOut = true := by simpa [Context.runsOut] using more
    simp only [State.searchExpiry, search, if_neg runs]
    rw [setCtx_steerSearch latest]
  · simp only [State.searchExpiry, search, if_pos (show c.runsOut = true from decide_eq_true out), next]
    rw [setCtx_steerSearch latest]
  · simp only [State.searchExpiry, search, if_pos (show c.runsOut = true from decide_eq_true out), next]

end

theorem settleLength_eq (sel : ℕ) : settleLength sel = [64, 128, 256].getD sel 512 := by
  match sel with
  | 0 | 1 | 2 => rfl
  | _ + 3 => rfl

/-- SETTLING at an expiry: counting, the re-anchor, a retry, or the end of the third attempt (R48, R49). -/
theorem settleExpiryWork_cases (s : State) (n : Head) (c : Context) (i : ℕ) :
    (¬c.timer ≤ 1 → s.settleExpiryWork n c i = s.setCtx n { c with timer := c.timer - 1 }) ∧
    (c.timer ≤ 1 → ∀ l, c.latest = some l → l.admValid = true → s.settleExpiryWork n c i =
      (s.setMeasure n { s.measure.get n with anchor := anchorFrom (s.measure.get n) l }).changeState n c.enterLocked
        .locked .anchored) ∧
    (c.timer ≤ 1 → (∀ l, c.latest = some l → l.admValid = false) →
      (c.attempts < 3 → s.settleExpiryWork n c i = s.setCtx n { c with
        attempts := c.attempts + 1, timer := [64, 128, 256].getD (s.settings.get n).settleSelect 512 }) ∧
      (3 ≤ c.attempts → s.settleExpiryWork n c i =
        s.changeStateWithFault n { c with attempts := 0, timer := 0 } .lost .anchorFail .anchorFail i)) := by
  refine ⟨fun more => ?_, fun out l latest valid => ?_, fun out invalid => ?_⟩
  · have runs : ¬c.runsOut = true := by simpa [Context.runsOut] using more
    rw [State.settleExpiryWork, if_neg runs]
  · have ready : c.admReady = some l := by simp [Context.admReady, latest, valid]
    simp only [State.settleExpiryWork, if_pos (show c.runsOut = true from decide_eq_true out), ready]
  · have notReady : c.admReady = none := Option.filter_eq_none_iff.2 fun l latest => by simp [invalid l latest]
    refine ⟨fun few => ?_, fun many => ?_⟩
    · simp only [State.settleExpiryWork, if_pos (show c.runsOut = true from decide_eq_true out), notReady, if_pos few,
        settleLength_eq]
    · simp only [State.settleExpiryWork, if_pos (show c.runsOut = true from decide_eq_true out), notReady,
        if_neg (Nat.not_lt.2 many)]

/-! ### The whole expiry -/

/-- The time base's part of head n's expiry (R115, R116, R117, R121). -/
def expired (s : State) (n : Head) (e : DueExpiry) : State :=
  (s.setHeadTime n ((s.headTime.get n).expire e s.time.period)).expireTrigger n (s.headTime.get n)

theorem takeExpiry_eq (s : State) (n : Head) (e : DueExpiry) : s.takeExpiry n e = (expired s n e).trackExpiry n e.index := rfl

theorem latestIndex_expired (s : State) (n : Head) (e : DueExpiry) :
    latestIndex ((expired s n e).headTime.get n) = some e.index := by
  have time : (expired s n e).headTime.get n = (s.headTime.get n).expire e s.time.period := by
    have same : (expired s n e).headTime = (s.setHeadTime n ((s.headTime.get n).expire e s.time.period)).headTime := by
      simp [expired]
    rw [same]
    exact PerHead.get_set_self _ _ _
  have newest : (pushHistory (s.headTime.get n).history ⟨e.index, e.time, s.time.period⟩).getLast? =
      some ⟨e.index, e.time, s.time.period⟩ := by
    rw [pushHistory, List.getLast?_drop, if_neg (by simp [Config.historyPlaces]), List.getLast?_concat]
  rw [latestIndex, time]
  exact congrArg (Option.map HistoryEntry.index) newest

/-- The report unit after a head's trigger record has been counted at an expiry (R121). -/
def triggerReport (r : Report) (n : Head) (t : Option TriggerRecord) : Report :=
  t.elim r fun t =>
    if t.periodsLeft ≤ 1 then Safety.withEvent r (some n) (.triggerExpired t.edgeIndex t.edgeTime) else r

theorem expireTrigger_eq (s : State) (n : Head) (h : HeadTime) :
    s.expireTrigger n h = { s with report := triggerReport s.report n h.trigger } := by
  unfold State.expireTrigger
  cases h.trigger with
  | none => rfl
  | some r =>
    dsimp only [triggerReport, Option.elim]
    split
    · exact placeEvent_eq _ _ _
    · rfl

/-- Settles O59: the rows, and the work by the silence test and the context's state. -/
theorem expiryWorks : Obligations.ExpiryWorks := by
  refine fun s n => ⟨fun waits c row => ?_, fun e due past => ?_⟩
  · obtain ⟨p, run, -⟩ := expiryRow_run s row
    rw [run, expireIf_waits waits]
  intro h c set log ends asleep count silent out named d b quiet steered search faulted
  let _ : Decidable (Asleep c) := inferInstanceAs (Decidable (c.state = .offline ∨ c.state = .disabled ∨ c.state = .parked))
  have silent_iff : s.silent n = true ↔ silent := silenceTrips_iff c set
  have named_iff (x : Instr) : ExpiryNamed s n x ↔ named x := expiryNamed_iff (triggerRunsOut_iff s n) silent_iff x
  have isB : expired s n e = b := by
    rw [expired, expireTrigger_eq]
    dsimp only [b, h, State.setHeadTime, HeadTime.expire]
    cases (s.headTime.get n).trigger <;> rfl
  have run {x : Instr} (is : named x) : exec x s = .next (b.trackExpiry n e.index) := by
    have is := (named_iff x).2 is
    obtain ⟨p, run, holds⟩ := expiryRow_run s (expiryNamed_row is)
    rw [run, holds.2 is, expireIf_due due past, ← isB]
    rfl
  have latest : latestIndex (b.headTime.get n) = some e.index := isB ▸ latestIndex_expired s n e
  have updated : (b.ctx.get n).updateSilence = d := updateSilence_eq c
  refine ⟨fun x row not => ?_, fun x is => ⟨fun trips => ?_, fun rests => ?_, fun loud state l newest gap isGap => ?_,
    fun loud state q is' => ?_, fun loud state => ?_⟩⟩
  · obtain ⟨p, run, holds⟩ := expiryRow_run s (List.mem_cons_of_mem _ row)
    have no : p = false := Bool.eq_false_iff.2 fun yes => not ((named_iff x).1 (holds.1 yes))
    rw [run, expireIf_due due past, no]
    rfl
  · refine ⟨_, run is, ?_⟩
    rw [trackExpiry_silent (s := b) (silent_iff.2 trips), updated]
    exact raiseWith_raisedWith _ _ _ _ _
  · rw [run is]
    have quietly : ¬(b.ctx.get n).silenceTrips (b.settings.get n) = true := fun trips =>
      rests.elim (silent_iff.1 trips).1 fun h => h.1 (silent_iff.1 trips)
    have states : c.state = .offline ∨ c.state = .disabled ∨ c.state = .parked ∨ c.state = .locked ∨ c.state = .lost := by
      rcases rests with (h | h | h) | ⟨-, h | h⟩ <;> simp [h]
    have other (st : CtxState) (working : st = .coasting ∨ st = .searching ∨ st = .settling) : (b.ctx.get n).state ≠ st := by
      intro (is : c.state = st)
      rw [is] at states
      rcases working with rfl | rfl | rfl <;> simp at states
    rw [trackExpiry_quiet quietly (other _ (.inl rfl)) (other _ (.inr (.inl rfl))) (other _ (.inr (.inr rfl))), updated]
    rfl
  · have loud : ¬(b.ctx.get n).silenceTrips (b.settings.get n) = true := fun trips => loud (silent_iff.1 trips)
    obtain ⟨goesOn, ends⟩ := coastExpiry_cases latest (c := d) newest isGap
    intro az el
    refine ⟨fun more => ?_, fun out => ?_⟩
    · rw [run is, trackExpiry_coasting loud state, updated, goesOn more]
      rfl
    · intro q
      rw [run is, trackExpiry_coasting loud state, updated, ends out]
      rfl
  · have loud : ¬(b.ctx.get n).silenceTrips (b.settings.get n) = true := fun trips => loud (silent_iff.1 trips)
    obtain ⟨again, next, exhausted⟩ := searchExpiry_cases latest (c := d) is'
    refine ⟨fun more => ?_, fun out q' isNext => ?_, fun out last => ⟨_, run is, ?_⟩⟩
    · rw [run is, trackExpiry_searching loud state, updated, again more]
      rfl
    · rw [run is, trackExpiry_searching loud state, updated, next out q' isNext]
      rfl
    · rw [trackExpiry_searching loud state, updated, exhausted out last]
      exact raiseWith_raisedWith _ _ _ _ _
  · have loud : ¬(b.ctx.get n).silenceTrips (b.settings.get n) = true := fun trips => loud (silent_iff.1 trips)
    obtain ⟨more, anchored, unready⟩ := settleExpiryWork_cases b n d e.index
    refine ⟨fun not => ?_, fun out l latest valid => ?_, fun out invalid => ⟨fun few => ?_, fun many => ⟨_, run is, ?_⟩⟩⟩
    · rw [run is, trackExpiry_settling loud state, updated, more not]
      rfl
    · rw [run is, trackExpiry_settling loud state, updated, anchored out l latest valid]
      rfl
    · rw [run is, trackExpiry_settling loud state, updated, (unready out invalid).1 few]
      rfl
    · rw [trackExpiry_settling loud state, updated, (unready out invalid).2 many]
      exact raiseWith_raisedWith _ _ _ _ _

end Sys2Proof.Proofs
end

section
/-! PROOFS. Reports and transmissions: Event payloads, the arbiter's entries, and the ends of transmissions. -/

namespace Sys2Proof.Proofs
open Sys2Proof Sys2Proof.Machine

/-! ### Event payloads (R155) -/

/-- The first three bytes of an Event payload. -/
def eventHead (k : Option Head) (superseded : Bool) (code : ℕ) : List Byte :=
  [byteOf code, byteOf (subjectCode k), if superseded then 1 else 0]

theorem eventPayload_eq (k : Option Head) (superseded : Bool) (e : Event) :
    eventPayload k ⟨e, superseded⟩ = eventHead k superseded e.code ++ e.data := rfl

theorem padTo_of_le {k : ℕ} {bs : List Byte} (h : bs.length ≤ k) : padTo k bs = bs ++ List.replicate (k - bs.length) 0 := by
  rw [padTo, List.take_of_length_le h]

theorem padTo_eq {k n : ℕ} {bs : List Byte} (h : bs.length + n = k) : padTo k bs = bs ++ List.replicate n 0 := by
  rw [padTo_of_le (by omega), show k - bs.length = n by omega]

theorem eventPayload_kinds (k : Option Head) (superseded : Bool) :
    (∀ old new cause, eventPayload k ⟨.state old new cause, superseded⟩ =
      eventHead k superseded 1 ++ [byteOf old.code, byteOf new.code, byteOf cause.code] ++ List.replicate 9 0) ∧
    (∀ kind detail, eventPayload k ⟨.fault kind detail, superseded⟩ =
      eventHead k superseded 2 ++ [byteOf kind.code] ++ natLE 8 detail ++ List.replicate 3 0) ∧
    (∀ old new time, eventPayload k ⟨.timeQuality old new time, superseded⟩ =
      eventHead k superseded 3 ++ [byteOf old.code, byteOf new.code] ++ natLE 8 time ++ List.replicate 2 0) ∧
    (∀ index time, eventPayload k ⟨.triggerExpired index time, superseded⟩ =
      eventHead k superseded 4 ++ natLE 2 index ++ natLE 8 time ++ List.replicate 2 0) ∧
    (∀ (v : PerHead Nat) (doubled : Bool), eventPayload k ⟨.decimation v doubled, superseded⟩ =
      eventHead k superseded 5 ++ [byteOf v.h0, byteOf v.h1, byteOf v.h2, byteOf v.h3, if doubled then 1 else 0] ++
        List.replicate 7 0) := by
  refine ⟨fun old new cause => rfl, fun kind detail => ?_, fun old new time => ?_, fun index time => ?_, fun v doubled => rfl⟩
  · rw [eventPayload_eq, Event.data, padTo_eq (n := 3) (by simp)]
    simp [Event.code]
  · rw [eventPayload_eq, Event.data, padTo_eq (n := 2) (by simp)]
    simp [Event.code]
  · rw [eventPayload_eq, Event.data, padTo_eq (n := 2) (by simp)]
    simp [Event.code]

/-! ### The arbiter (R159, R165, R167) -/

theorem placeFree_iff (r : Report) : r.placeFree = true ↔ r.occupancy < 48 := decide_eq_true_iff

theorem heldAnswerEntry_cases (s : State) :
    (∀ f, s.mgmt.held = some f → s.report.occupancy < 48 ∧ s.restartMark = false → exec .heldAnswerEntry s = .next { s with
      report := Safety.risen { s.report with queue := s.report.queue ++ [f] }
      uplink := s.uplink.choose (s.report.queue ++ [f]), mgmt := { s.mgmt with held := none } }) ∧
    (s.mgmt.held = none ∨ ¬(s.report.occupancy < 48 ∧ s.restartMark = false) → exec .heldAnswerEntry s = .next s) := by
  have free_iff : (s.report.placeFree && !s.restartMark) = true ↔ s.report.occupancy < 48 ∧ s.restartMark = false := by
    rw [Bool.and_eq_true, placeFree_iff, Bool.not_eq_true']
  refine ⟨fun f held free => ?_, fun not => ?_⟩
  · show execHeldAnswerEntry s = _
    simp only [execHeldAnswerEntry, held, if_pos (free_iff.2 free), State.enqueue_eq]
  · show execHeldAnswerEntry s = _
    cases held : s.mgmt.held with
    | none => rw [execHeldAnswerEntry, held]
    | some f =>
      have full := not.resolve_left (by rw [held]; exact Option.some_ne_none f)
      simp only [execHeldAnswerEntry, held, if_neg (mt free_iff.1 full)]

/-- The conditions under which a drain read could start but for its place and the restart mark (R107, R159). -/
def DrainCould (s : State) : Prop :=
  (s.service = .active ∨ s.service = .hold) ∧ s.spill.drains.length < s.spill.count ∧
    (∀ w ∈ s.spill.writes, w.pos ≠ (s.spill.readPos + s.spill.drains.length) % 512) ∧
    (s.spill.drains.countP fun d => d.data.isNone) < 4

theorem drainWaits_iff (s : State) : s.drainWaits = true ↔ DrainCould s ∧ s.restartMark = false := by
  simp only [State.drainWaits, spillWriteAt, Bool.and_eq_true, Bool.or_eq_true, decide_eq_true_eq, Bool.not_eq_true',
    Option.isNone_iff_eq_none, List.find?_eq_none, DrainCould]
  exact ⟨fun ⟨⟨⟨⟨service, mark⟩, held⟩, written⟩, few⟩ => ⟨⟨service, held, written, few⟩, mark⟩,
    fun ⟨⟨service, held, written, few⟩, mark⟩ => ⟨⟨⟨⟨service, mark⟩, held⟩, written⟩, few⟩⟩

/-- The first slot that holds an event is taken, where an entry may be made. -/
theorem eventSlotTaken_eq (s : State) : exec .eventSlotTaken s = .next
    (if s.report.placeFree && s.mgmt.held.isNone && !s.drainWaits && !s.restartMark then
      s.report.nextSlot.elim s fun p => s.takeSlot p.1 p.2
    else s) := by
  show execEventSlotTaken s = _
  unfold execEventSlotTaken
  cases s.report.nextSlot <;> rfl

theorem entryMade_iff (s : State) : (s.report.placeFree && s.mgmt.held.isNone && !s.drainWaits && !s.restartMark) = true ↔
    (s.report.occupancy < 48 ∧ s.restartMark = false) ∧ s.mgmt.held = none ∧ ¬DrainCould s := by
  simp only [Bool.and_eq_true, placeFree_iff, Option.isNone_iff_eq_none, Bool.not_eq_true', ← Bool.not_eq_true s.drainWaits,
    drainWaits_iff]
  tauto

theorem nextSlot_of_none {r : Report} (h : ∀ k, r.slot k = none) : r.nextSlot = none :=
  List.findSome?_eq_none_iff.2 fun k _ => by rw [h k]; rfl

theorem nextSlot_of_first {r : Report} {before after : List (Option Head)} {k : Option Head} {h : HeldEvent}
    (order : visitingOrder r.visiting = before ++ k :: after) (none_ : ∀ j ∈ before, r.slot j = none) (holds : r.slot k = some h) :
    r.nextSlot = some (k, h) := by
  have passed : before.findSome? (fun k => (r.slot k).map fun h => (k, h)) = none :=
    List.findSome?_eq_none_iff.2 fun j mem => by rw [none_ j mem]; rfl
  rw [Report.nextSlot, order, List.findSome?_append, passed, List.findSome?_cons, holds]
  rfl

/-! ### Transmissions (R149 to R151) -/

theorem fallen_queue (r : Report) : (Safety.fallen r).queue = r.queue := by
  simp only [Safety.fallen]
  split <;> rfl

theorem uplinkTxEnd_cases (s : State) (bytes : List Byte) :
    (s.uplink.sending = some ⟨.report, bytes⟩ → exec .uplinkTxEnd s = .next { s with
      report := Safety.fallen { s.report with queue := s.report.queue.tail }
      uplink := Uplink.choose { s.uplink with sending := none } s.report.queue.tail }) ∧
    (s.uplink.sending = some ⟨.forward, bytes⟩ → exec .uplinkTxEnd s = .next { s with
      uplink := Uplink.choose { s.uplink with sending := none, forward := s.uplink.forward.tail } s.report.queue }) ∧
    (s.uplink.sending = some ⟨.detached, bytes⟩ → exec .uplinkTxEnd s = .next { s with
      uplink := Uplink.choose { s.uplink with sending := none } s.report.queue }) := by
  refine ⟨fun sending => ?_, fun sending => ?_, fun sending => ?_⟩
  all_goals
    show execUplinkTxEnd s = _
    rw [execUplinkTxEnd, sending]
  · simp only [State.leaveSource, State.afterFall_eq, State.kickUplink, fallen_queue]
  · rfl
  · rfl

theorem headTxEnd_eq (s : State) (n : Head) : exec (.headTxEnd n) s = .next (if (s.ports.get n).sending = none then s else { s with
    ports := s.ports.set n (HeadPort.choose n { s.ports.get n with sending := none }) }) := by
  show execHeadTxEnd n s = _
  rw [execHeadTxEnd]
  cases sending : (s.ports.get n).sending with
  | none => rfl
  | some f => simp [State.kickHead, State.setPort]

/-- Settles O60: payloads and codes, the arbiter's entries, and the ends of transmissions. -/
theorem reportsAndTransmissions : Obligations.ReportsAndTransmissions := by
  refine ⟨fun k superseded => ?_, ⟨by decide, by decide, rfl, rfl, rfl⟩, fun s => ?_⟩
  · intro head
    have same : head = eventHead k superseded := by cases k <;> rfl
    rw [same]
    exact eventPayload_kinds k superseded
  · intro free entered order slot drains
    have isOrder (k : Option Head) : visitingOrder k = order k := by
      match k with
      | none | some .h0 | some .h1 | some .h2 | some .h3 => rfl
    have isSlot (k : Option Head) : s.report.slot k = slot k := by cases k <;> rfl
    have made_iff := entryMade_iff s
    refine ⟨(heldAnswerEntry_cases s).1, (heldAnswerEntry_cases s).2, fun bars => ?_, fun before k after ev may none_ idle at_ passed
      holds => ?_, fun none_ => ?_, uplinkTxEnd_cases s, headTxEnd_eq s⟩
    · rw [eventSlotTaken_eq]
      by_cases made : (s.report.placeFree && s.mgmt.held.isNone && !s.drainWaits && !s.restartMark) = true
      · obtain ⟨may, held, idle⟩ := made_iff.1 made
        have empty := ((bars.resolve_left (not_not.2 may)).resolve_left (not_not.2 held)).resolve_left idle
        rw [if_pos made, nextSlot_of_none fun k => (isSlot k).trans (empty k)]
        rfl
      · rw [if_neg made]
    · intro emptied
      have next := nextSlot_of_first ((isOrder _).trans at_) (fun j mem => (isSlot j).trans (passed j mem)) ((isSlot k).trans holds)
      rw [eventSlotTaken_eq, if_pos (made_iff.2 ⟨may, none_, idle⟩), next]
      refine congrArg Host.Outcome.next ?_
      show s.takeSlot k ev = _
      have isEmptied : s.report.setSlot k none = emptied := by
        dsimp only [emptied]
        cases k <;> rfl
      have pointer : slotAfter k = (order k).getD 1 none := by
        rw [← isOrder k]
        rfl
      rw [State.takeSlot, State.enqueue_eq, isEmptied, pointer]
    · show execUplinkTxEnd s = _
      rw [execUplinkTxEnd, none_]

end Sys2Proof.Proofs
end
